-- ==== Sys2Proof/Word.lean ====
section
/-! DEFINITION. The words of the block (00_scope.md R7 to R11). -/

namespace Sys2Proof

/-- One byte of a frame (00_scope.md R7). -/
abbrev Byte := BitVec 8

/-- An IEEE 754 binary64 value, as its 64 bits (00_scope.md R10). -/
abbrev Binary64 := BitVec 64

/-- A string of characters: a callsign, a registry string, a text line (00_scope.md R11). -/
abbrev Text := List Char

end Sys2Proof
end

