-- ==== Sys2Proof/Machine/Binary64.lean ====
section
/-! DEFINITION. IEEE 754 binary64 as the block uses it (00_scope.md R10): the value of a bit pattern, exact conversion of
an integer, and the correctly rounded square root of an integer (41_extract.md R111). No other operation of the block is
floating point. -/

namespace Sys2Proof.Machine

/-- The number a binary64 pattern stands for; none for an infinity or a NaN. -/
def binary64Value (x : Binary64) : Option ℚ :=
  let expo := (x.extractLsb' 52 11).toNat
  let frac := (x.extractLsb' 0 52).toNat
  let mag : ℚ := if expo = 0 then (frac * 2 : ℚ) / 2 ^ 1075 else ((2 ^ 52 + frac) * 2 ^ expo : ℚ) / 2 ^ 1075
  if expo = 2047 then none else some (if x.getLsbD 63 then -mag else mag)

/-- The binary64 pattern of `m / 2^s`, exact for `m < 2^53` and `s ≤ 1022`. -/
def binary64OfScaled (m s : Nat) : Binary64 :=
  if m = 0 then 0
  else BitVec.ofNat 64 ((1023 + Nat.log2 m - s) * 2 ^ 52 + (m * 2 ^ (52 - Nat.log2 m) - 2 ^ 52))

/-- `to_binary64(n)`, exact for `n < 2^53` (41_extract.md R111: "exact in binary64"). -/
def binary64OfNat (n : Nat) : Binary64 := binary64OfScaled n 0

/-- The largest `r` with `r * r ≤ n` among `q .. q + 2^k - 1`, by deciding the low `k` bits from the highest down. -/
def sqrtFloor (k n q : Nat) : Nat :=
  match k with
  | 0 => q
  | j + 1 => sqrtFloor j n (if (q + 2 ^ j) * (q + 2 ^ j) ≤ n then q + 2 ^ j else q)

/-- The integer nearest to the square root of `n < 2^106`. There is no tie: `(q + 1/2)^2` is not an integer. -/
def sqrtNearest (n : Nat) : Nat :=
  let q := sqrtFloor 53 n 0
  if q * q + q < n then q + 1 else q

/-- `sqrt_binary64(to_binary64(n))`, the correctly rounded square root of an integer `n < 2^53` (41_extract.md R111):
`n` is scaled by `4^k` so that its root has 53 bits, rounded to the nearest integer, and scaled back by `2^k`
(log entry 10). -/
def binary64SqrtOfNat (n : Nat) : Binary64 :=
  if n = 0 then 0
  else
    let k := 52 - Nat.log2 n / 2
    binary64OfScaled (sqrtNearest (n * 2 ^ (2 * k))) k

end Sys2Proof.Machine
end

