-- ==== Sys2Proof/Machine/HeadingCandidate.lean ====
section
/-! DEFINITION. One heading function, by a rational arctangent series. It is NOT the heading of the block: the parameter
HEADING_DEG is OPEN and stands in Config.lean without a body. It shows only that laws H1 to H4 of 41_extract.md R112 can
be met, which is what lets Config.lean name a heading of which nothing but those laws is known (log entry 5). -/

namespace Sys2Proof.Machine

/-- The first `n` terms of the arctangent series, `x - x^3/3 + x^5/5 - …`. -/
def arctanSum (x : ℚ) (n : Nat) : ℚ :=
  match n with
  | 0 => 0
  | k + 1 => arctanSum x k + (-1) ^ k * x ^ (2 * k + 1) / (2 * k + 1)

/-- `180 / π`, with an error below `10^-17`. -/
def degreesPerRadian : ℚ := 5729577951308232087 / 100000000000000000

/-- The angle in degrees whose tangent is `p / q`, for `0 < p ≤ q`: by the series where `p / q ≤ 1/2`, else by
`arctan x = 45° - arctan ((1 - x) / (1 + x))`. -/
def acuteDegrees (p q : Nat) : ℚ :=
  if 2 * p ≤ q then degreesPerRadian * arctanSum (p / q) 20
  else 45 - degreesPerRadian * arctanSum ((q - p) / (q + p)) 20

/-- The angle from north, in degrees 0 to 90, of a vector `a` east and `b` north, both at least 0. -/
def quadrantDegrees (a b : Nat) : ℚ :=
  if a = 0 then 0
  else if b = 0 then 90
  else if a ≤ b then acuteDegrees a b
  else 90 - acuteDegrees b a

/-- The angle from north, in degrees 0 to 360, of a vector `ew` east and `ns` north. -/
def headingDegrees (ew ns : Int) : ℚ :=
  let t := quadrantDegrees ew.natAbs ns.natAbs
  if 0 ≤ ew then (if 0 ≤ ns then t else 180 - t) else (if 0 ≤ ns then 360 - t else 180 + t)

/-- The candidate: the angle cut to 40 fractional bits. -/
def headingCandidate (ew ns : Int) : Binary64 :=
  binary64OfScaled (⌊headingDegrees ew ns * 2 ^ 40⌋.toNat) 40

end Sys2Proof.Machine
end

