-- ==== Sys2Proof/Machine/HeadingLaws.lean ====
section
/-! DEFINITION. The laws H1 to H4 that 41_extract.md R112 lets a model assume of HEADING_DEG, and the proof that some
function meets them (the candidate of HeadingCandidate.lean does). -/

namespace Sys2Proof.Machine

/-- `v` is within `10^-9` of the normalised angle of R112: `θ = atan2(ew, ns) · 180/π`, plus 360 where `θ < 0`, with
`atan2(0, 0) = 0`. The argument of the complex number `ns + i·ew` is `atan2(ew, ns)`. -/
def nearHeading (ew ns : Int) (v : ℚ) : Prop :=
  let θ : ℝ := Complex.arg ⟨(ns : ℝ), (ew : ℝ)⟩ * 180 / Real.pi
  |(v : ℝ) - (if θ < 0 then θ + 360 else θ)| ≤ 1 / 10 ^ 9

/-- Laws H1, H3 and H4 of 41_extract.md R112 for the heading `h` of the components `(ew, ns)`; H2 holds of any function
of them. H4's `0.0` is the pattern of +0.0 (log entry 5). -/
def HeadingLawsAt (ew ns : Int) (h : Binary64) : Prop :=
  (∃ v, binary64Value h = some v ∧ 0 ≤ v ∧ v < 360 ∧ nearHeading ew ns v) ∧
  (ew = 0 → 0 ≤ ns → h = binary64OfNat 0) ∧
  (0 < ew → ns = 0 → h = binary64OfNat 90) ∧
  (ew = 0 → ns < 0 → h = binary64OfNat 180) ∧
  (ew < 0 → ns = 0 → h = binary64OfNat 270)

/-! ### The value of a scaled pattern -/

/-- `binary64OfScaled m s` stands for `m / 2^s`. -/
theorem binary64Value_ofScaled (m s : Nat) (hm : m < 2 ^ 53) (hs : s ≤ 1022) :
    binary64Value (binary64OfScaled m s) = some ((m : ℚ) / 2 ^ s) := by
  by_cases h0 : m = 0
  · subst h0
    simp [binary64OfScaled, binary64Value]
  · have hlo : 2 ^ Nat.log2 m ≤ m := Nat.log2_self_le h0
    have hlt : Nat.log2 m < 53 := (Nat.log2_lt h0).2 hm
    have hhi : m < 2 ^ (Nat.log2 m + 1) := (Nat.log2_lt h0).1 (Nat.lt_succ_self _)
    obtain ⟨e, he⟩ : ∃ e, e = Nat.log2 m := ⟨_, rfl⟩
    rw [← he] at hlo hlt hhi
    have hpow : 2 ^ e * 2 ^ (52 - e) = 2 ^ 52 := by rw [← pow_add]; congr 1; omega
    have hsig : 2 ^ 52 ≤ m * 2 ^ (52 - e) := hpow ▸ Nat.mul_le_mul_right _ hlo
    have hsig' : m * 2 ^ (52 - e) < 2 ^ 53 := by
      calc m * 2 ^ (52 - e) < 2 ^ (e + 1) * 2 ^ (52 - e) := Nat.mul_lt_mul_of_pos_right hhi (by positivity)
        _ = 2 ^ 53 := by rw [← pow_add]; congr 1; omega
    obtain ⟨f, hf⟩ : ∃ f, m * 2 ^ (52 - e) = 2 ^ 52 + f := ⟨m * 2 ^ (52 - e) - 2 ^ 52, by omega⟩
    have hbits : binary64OfScaled m s = BitVec.ofNat 64 ((1023 + e - s) * 2 ^ 52 + f) := by
      rw [binary64OfScaled, if_neg h0, ← he, hf, Nat.add_sub_cancel_left]
    obtain ⟨x, hx⟩ : ∃ x, x = 1023 + e - s := ⟨_, rfl⟩
    have hx1 : 1 ≤ x ∧ x < 1076 := by omega
    have hf' : f < 2 ^ 52 := by omega
    have hexp : (BitVec.extractLsb' 52 11 (binary64OfScaled m s)).toNat = x := by
      rw [hbits, ← hx, BitVec.extractLsb'_toNat, BitVec.toNat_ofNat, Nat.shiftRight_eq_div_pow]
      omega
    have hfrac : (BitVec.extractLsb' 0 52 (binary64OfScaled m s)).toNat = f := by
      rw [hbits, ← hx, BitVec.extractLsb'_toNat, BitVec.toNat_ofNat, Nat.shiftRight_eq_div_pow]
      omega
    have hsign : (binary64OfScaled m s).getLsbD 63 = false := by
      rw [hbits, ← hx, BitVec.getLsbD_ofNat, Nat.testBit_eq_decide_div_mod_eq]
      simp
      omega
    simp only [binary64Value, hexp, hfrac, hsign]
    have hq : ((2 : ℚ) ^ 52 + f) = m * 2 ^ (52 - e) := by exact_mod_cast hf.symm
    rw [if_neg (by omega : x ≠ 2047), if_neg (by omega : x ≠ 0), if_neg Bool.false_ne_true, hq]
    refine congrArg some ?_
    rw [div_eq_div_iff (by positivity) (by positivity), mul_assoc, mul_assoc, ← pow_add, ← pow_add]
    congr 2
    omega

/-! ### The series -/

/-- The partial sums as sums over a range, in the reals. -/
theorem arctanSum_cast (x : ℚ) (n : Nat) :
    ((arctanSum x n : ℚ) : ℝ) =
      ∑ i ∈ Finset.range n, (-1 : ℝ) ^ i * ((x : ℝ) ^ (2 * i + 1) / ((2 * i + 1 : ℕ) : ℝ)) := by
  induction n with
  | zero => simp [arctanSum]
  | succ k ih =>
    rw [Finset.sum_range_succ, ← ih]
    simp only [arctanSum]
    push_cast
    ring

/-- The terms of the series decrease in size. -/
theorem arctan_terms_antitone {y : ℝ} (h0 : 0 ≤ y) (h1 : y ≤ 1) :
    Antitone fun n : ℕ => y ^ (2 * n + 1) / ((2 * n + 1 : ℕ) : ℝ) := by
  refine antitone_nat_of_succ_le fun n => ?_
  have hp : y ^ (2 * (n + 1) + 1) ≤ y ^ (2 * n + 1) := pow_le_pow_of_le_one h0 h1 (by omega)
  exact div_le_div₀ (by positivity) hp (by positivity) (by push_cast; linarith)

/-- The alternating series tends to the arctangent. -/
theorem arctan_tendsto {y : ℝ} (h0 : 0 ≤ y) (h1 : y < 1) :
    Filter.Tendsto (fun n => ∑ i ∈ Finset.range n, (-1 : ℝ) ^ i * (y ^ (2 * i + 1) / ((2 * i + 1 : ℕ) : ℝ)))
      Filter.atTop (nhds (Real.arctan y)) := by
  have h := (Real.hasSum_arctan (x := y) (by rw [Real.norm_eq_abs, abs_of_nonneg h0]; exact h1)).tendsto_sum_nat
  simpa [mul_div_assoc] using h

/-- An arctangent is at most its argument. -/
theorem arctan_le_self {y : ℝ} (h0 : 0 ≤ y) : Real.arctan y ≤ y := by
  have h := Real.le_tan (Real.arctan_nonneg.2 h0) (Real.arctan_lt_pi_div_two y)
  rwa [Real.tan_arctan] at h

/-- Twenty terms are within `10^-13` below the arctangent, and at least `x/2`, for `0 ≤ x ≤ 1/2`. -/
theorem arctanSum_near {x : ℚ} (h0 : 0 ≤ x) (h1 : x ≤ 1 / 2) :
    ((arctanSum x 20 : ℚ) : ℝ) ≤ Real.arctan x ∧ Real.arctan x ≤ (arctanSum x 20 : ℚ) + 1 / 10 ^ 13 ∧
      (x : ℝ) / 2 ≤ (arctanSum x 20 : ℚ) := by
  have hy0 : (0 : ℝ) ≤ x := by exact_mod_cast h0
  have hy1 : (x : ℝ) ≤ 1 / 2 := by
    have := (Rat.cast_le (K := ℝ)).2 h1
    simpa using this
  have ha := arctan_terms_antitone hy0 (by linarith)
  have ht := arctan_tendsto hy0 (by linarith : (x : ℝ) < 1)
  have hlow := ha.alternating_series_le_tendsto ht 10
  have hup := ha.tendsto_le_alternating_series ht 10
  have hlow1 := ha.alternating_series_le_tendsto ht 1
  rw [Finset.sum_range_succ, ← arctanSum_cast] at hup
  rw [← arctanSum_cast] at hlow
  have hterm : (x : ℝ) ^ (2 * 20 + 1) / ((2 * 20 + 1 : ℕ) : ℝ) ≤ x / 10 ^ 13 := by
    have hp : (x : ℝ) ^ 40 ≤ (1 / 2) ^ 40 := pow_le_pow_left₀ hy0 hy1 _
    have : (x : ℝ) ^ (2 * 20 + 1) = x * (x : ℝ) ^ 40 := by ring
    rw [this, mul_div_assoc, div_eq_mul_inv (x : ℝ)]
    refine mul_le_mul_of_nonneg_left ?_ hy0
    calc (x : ℝ) ^ 40 / _ ≤ (1 / 2) ^ 40 / _ := by gcongr
      _ ≤ (10 ^ 13)⁻¹ := by norm_num
  simp only [Finset.sum_range_succ, Finset.sum_range_zero] at hlow1
  have hx3 : (x : ℝ) ^ 3 ≤ x * (1 / 4) := by
    have : (x : ℝ) ^ 2 ≤ 1 / 4 := by nlinarith
    calc (x : ℝ) ^ 3 = x * (x : ℝ) ^ 2 := by ring
      _ ≤ _ := mul_le_mul_of_nonneg_left this hy0
  norm_num at hup hlow1 hterm
  refine ⟨hlow, ?_, ?_⟩
  · norm_num
    linarith
  · linarith

/-! ### The angle of the candidate -/

/-- The conversion constant is within `10^-17` of `180/π`. -/
theorem degreesPerRadian_near :
    |((degreesPerRadian : ℚ) : ℝ) - 180 / Real.pi| ≤ 1 / 10 ^ 16 := by
  have h1 := Real.pi_gt_d20
  have h2 := Real.pi_lt_d20
  have hp := Real.pi_pos
  have e : ((degreesPerRadian : ℚ) : ℝ) - 180 / Real.pi =
      (((degreesPerRadian : ℚ) : ℝ) * Real.pi - 180) / Real.pi := by field_simp
  rw [e, abs_div, abs_of_pos hp, div_le_iff₀ hp, abs_le]
  simp only [degreesPerRadian]
  push_cast
  constructor <;> norm_num at * <;> linarith

/-- Degrees of twenty terms are within `10^-11` of degrees of the arctangent. -/
theorem degrees_near {x : ℚ} (h0 : 0 ≤ x) (h1 : x ≤ 1 / 2) :
    |((degreesPerRadian * arctanSum x 20 : ℚ) : ℝ) - Real.arctan x * 180 / Real.pi| ≤ 1 / 10 ^ 11 := by
  obtain ⟨hl, hu, hp⟩ := arctanSum_near h0 h1
  have hy0 : (0 : ℝ) ≤ x := by exact_mod_cast h0
  have hy1 : (x : ℝ) ≤ 1 / 2 := by
    have := (Rat.cast_le (K := ℝ)).2 h1
    simpa using this
  have hd := abs_le.1 degreesPerRadian_near
  have hat : Real.arctan x ≤ 1 := by
    have h := Real.arctan_le_arctan_iff.2 (by linarith : (x : ℝ) ≤ 1)
    rw [Real.arctan_one] at h
    linarith [Real.pi_lt_d2]
  have hpi : (180 : ℝ) / Real.pi ≤ 58 := by
    rw [div_le_iff₀ Real.pi_pos]
    linarith [Real.pi_gt_d2]
  have hpi0 : (0 : ℝ) ≤ 180 / Real.pi := by positivity
  set S : ℝ := ((arctanSum x 20 : ℚ) : ℝ) with hS
  set c : ℝ := ((degreesPerRadian : ℚ) : ℝ) with hc
  have hS0 : 0 ≤ S := by linarith
  have hS1 : S ≤ 1 := by linarith
  have e : ((degreesPerRadian * arctanSum x 20 : ℚ) : ℝ) - Real.arctan x * 180 / Real.pi =
      (c - 180 / Real.pi) * S + 180 / Real.pi * (S - Real.arctan x) := by
    rw [hc, hS]
    push_cast
    ring
  rw [e, abs_le]
  have b1 : |(c - 180 / Real.pi) * S| ≤ 1 / 10 ^ 16 := by
    rw [abs_mul, abs_of_nonneg hS0]
    calc _ ≤ 1 / 10 ^ 16 * 1 := mul_le_mul degreesPerRadian_near hS1 hS0 (by norm_num)
      _ = _ := by ring
  have b2 : |180 / Real.pi * (S - Real.arctan x)| ≤ 58 * (1 / 10 ^ 13) := by
    rw [abs_mul, abs_of_nonneg hpi0]
    exact mul_le_mul hpi (abs_le.2 ⟨by linarith, by linarith [show (0 : ℝ) ≤ 1 / 10 ^ 13 by norm_num]⟩)
      (abs_nonneg _) (by norm_num)
  obtain ⟨b1l, b1u⟩ := abs_le.1 b1
  obtain ⟨b2l, b2u⟩ := abs_le.1 b2
  norm_num at *
  constructor <;> linarith

/-- The acute angle is within `10^-11` of the arctangent's, positive, and at most 50. -/
theorem acuteDegrees_near {p q : Nat} (hp : 0 < p) (hpq : p ≤ q) :
    |((acuteDegrees p q : ℚ) : ℝ) - Real.arctan ((p : ℝ) / q) * 180 / Real.pi| ≤ 1 / 10 ^ 11 ∧
      0 < acuteDegrees p q ∧ acuteDegrees p q ≤ 50 := by
  have hq : 0 < q := by omega
  have hpR : (0 : ℝ) < p := by exact_mod_cast hp
  have hqR : (0 : ℝ) < q := by exact_mod_cast hq
  have hpQ : (0 : ℚ) < p := by exact_mod_cast hp
  have hqQ : (0 : ℚ) < q := by exact_mod_cast hq
  have hpqQ : (p : ℚ) ≤ q := by exact_mod_cast hpq
  have hcpos : (0 : ℚ) < degreesPerRadian := by norm_num [degreesPerRadian]
  -- a sum of terms lies between x/2 and x, in degrees between 0 and 30
  have bound : ∀ x : ℚ, 0 ≤ x → x ≤ 1 / 2 → x / 2 ≤ arctanSum x 20 ∧ arctanSum x 20 ≤ x := by
    intro x h0 h1
    obtain ⟨hl, -, hh⟩ := arctanSum_near h0 h1
    have hy0 : (0 : ℝ) ≤ x := by exact_mod_cast h0
    have hle : Real.arctan x ≤ x := by
      rcases hy0.eq_or_lt with h | h
      · rw [← h]; simp
      · exact arctan_le_self h.le
    constructor
    · exact_mod_cast hh
    · have : ((arctanSum x 20 : ℚ) : ℝ) ≤ x := hl.trans hle
      exact_mod_cast this
  unfold acuteDegrees
  split
  · rename_i h2
    have hx0 : (0 : ℚ) < p / q := by positivity
    have hx1 : (p : ℚ) / q ≤ 1 / 2 := by
      rw [div_le_iff₀ hqQ]
      have : (2 * p : ℚ) ≤ q := by exact_mod_cast h2
      linarith
    obtain ⟨hb1, hb2⟩ := bound _ hx0.le hx1
    have h := degrees_near hx0.le hx1
    push_cast at h
    refine ⟨by push_cast; exact h, mul_pos hcpos (by linarith), ?_⟩
    have : arctanSum (p / q) 20 ≤ 1 / 2 := hb2.trans hx1
    calc _ ≤ degreesPerRadian * (1 / 2) := mul_le_mul_of_nonneg_left this hcpos.le
      _ ≤ 50 := by norm_num [degreesPerRadian]
  · rename_i h2
    have h2' : (q : ℚ) ≤ 2 * p := by exact_mod_cast (by omega : q ≤ 2 * p)
    have hx0 : (0 : ℚ) ≤ (q - p) / (q + p) := div_nonneg (by linarith) (by positivity)
    have hx1 : ((q : ℚ) - p) / (q + p) ≤ 1 / 3 := by
      rw [div_le_iff₀ (by positivity)]
      linarith
    obtain ⟨hb1, hb2⟩ := bound _ hx0 (by linarith)
    have h := degrees_near hx0 (by linarith)
    have hadd : Real.arctan ((p : ℝ) / q) + Real.arctan (((q : ℝ) - p) / (q + p)) = Real.pi / 4 := by
      have hlt : (p : ℝ) / q * (((q : ℝ) - p) / (q + p)) < 1 := by
        rw [div_mul_div_comm, div_lt_one (by positivity)]
        nlinarith [mul_pos hpR hpR, mul_pos hqR hqR]
      have hpp : (p : ℝ) * p + q * q ≠ 0 := by positivity
      rw [Real.arctan_add hlt, ← Real.arctan_one]
      congr 1
      have hden : (1 : ℝ) - (p : ℝ) / q * (((q : ℝ) - p) / (q + p)) ≠ 0 := by linarith
      rw [div_eq_one_iff_eq hden]
      field_simp
      ring
    have hpi := Real.pi_pos
    refine ⟨?_, ?_, ?_⟩
    · have e : Real.arctan ((p : ℝ) / q) * 180 / Real.pi =
          45 - Real.arctan (((q : ℝ) - p) / (q + p)) * 180 / Real.pi := by
        have : Real.arctan ((p : ℝ) / q) = Real.pi / 4 - Real.arctan (((q : ℝ) - p) / (q + p)) := by linarith
        rw [this]
        field_simp
        ring
      rw [e, abs_sub_comm]
      push_cast at h ⊢
      convert h using 2
      ring
    · have : degreesPerRadian * arctanSum ((q - p) / (q + p)) 20 ≤ degreesPerRadian * (1 / 3) :=
        mul_le_mul_of_nonneg_left (hb2.trans hx1) hcpos.le
      have : degreesPerRadian * (1 / 3) < 45 := by norm_num [degreesPerRadian]
      linarith
    · have : 0 ≤ degreesPerRadian * arctanSum ((q - p) / (q + p)) 20 := mul_nonneg hcpos.le (by linarith)
      linarith

/-- Right of the imaginary axis the argument is an arctangent. -/
theorem arg_eq_arctan {x y : ℝ} (hx : 0 < x) : Complex.arg ⟨x, y⟩ = Real.arctan (y / x) := by
  have ht := Complex.tan_arg ⟨x, y⟩
  have hb := abs_lt.1 ((Complex.abs_arg_lt_pi_div_two_iff (z := ⟨x, y⟩)).2 (Or.inl hx))
  rw [← Real.arctan_tan (by linarith) hb.2, ht]

/-- On the positive imaginary axis the argument is a right angle. -/
theorem arg_of_re_zero {y : ℝ} (hy : 0 < y) : Complex.arg ⟨0, y⟩ = Real.pi / 2 := by
  have h : (⟨0, y⟩ : ℂ) = y * Complex.I := by
    apply Complex.ext <;> simp
  rw [h, Complex.arg_real_mul _ hy, Complex.arg_I]

/-- On the positive real axis, and at 0, the argument is 0. -/
theorem arg_of_im_zero {x : ℝ} (hx : 0 ≤ x) : Complex.arg ⟨x, 0⟩ = 0 := by
  have h : (⟨x, 0⟩ : ℂ) = (x : ℂ) := rfl
  rw [h, Complex.arg_ofReal_of_nonneg hx]

/-- Mirrored at the imaginary axis, the argument is taken from the straight angle. -/
theorem arg_neg_re {x y : ℝ} (hx : x < 0) (hy : 0 ≤ y) :
    Complex.arg ⟨x, y⟩ = Real.pi - Complex.arg ⟨-x, y⟩ := by
  have hn : ‖(⟨-x, y⟩ : ℂ)‖ = ‖(⟨x, y⟩ : ℂ)‖ := by
    simp [Complex.norm_def, Complex.normSq]
  rw [Complex.arg_of_re_neg_of_im_nonneg (by exact hx) (by exact hy),
    Complex.arg_of_re_nonneg (by show (0 : ℝ) ≤ -x; linarith), hn]
  have : ((-(⟨x, y⟩ : ℂ)).im) = -y := rfl
  rw [this, neg_div, Real.arcsin_neg]
  ring

/-- Mirrored at the real axis, the argument changes sign. -/
theorem arg_neg_im {x y : ℝ} (hy : 0 < y) : Complex.arg ⟨x, -y⟩ = -Complex.arg ⟨x, y⟩ := by
  have h : (⟨x, -y⟩ : ℂ) = (starRingEnd ℂ) ⟨x, y⟩ := rfl
  rw [h, Complex.arg_conj, if_neg]
  exact ((Complex.arg_lt_pi_iff (z := ⟨x, y⟩)).2 (Or.inr hy.ne')).ne

/-- In the first quadrant the candidate's angle is within `10^-11`, lies in 0 to 90, and is 0 only due north. -/
theorem quadrantDegrees_near (a b : Nat) :
    |((quadrantDegrees a b : ℚ) : ℝ) - Complex.arg ⟨(b : ℝ), (a : ℝ)⟩ * 180 / Real.pi| ≤ 1 / 10 ^ 11 ∧
      0 ≤ quadrantDegrees a b ∧ quadrantDegrees a b ≤ 90 ∧ (0 < a → 0 < quadrantDegrees a b) := by
  have hpi := Real.pi_pos
  unfold quadrantDegrees
  split
  · rename_i ha
    subst ha
    have h : Complex.arg ⟨(b : ℝ), ((0 : ℕ) : ℝ)⟩ = 0 := by
      rw [Nat.cast_zero]
      exact arg_of_im_zero (Nat.cast_nonneg b)
    rw [h]
    norm_num
  · rename_i ha
    have haR : (0 : ℝ) < a := by exact_mod_cast Nat.pos_of_ne_zero ha
    split
    · rename_i hb
      subst hb
      have h : Complex.arg ⟨((0 : ℕ) : ℝ), (a : ℝ)⟩ = Real.pi / 2 := by
        rw [Nat.cast_zero]
        exact arg_of_re_zero haR
      rw [h]
      have e : (90 : ℝ) - Real.pi / 2 * 180 / Real.pi = 0 := by field_simp; norm_num
      push_cast
      rw [e]
      norm_num
    · rename_i hb
      have hbR : (0 : ℝ) < b := by exact_mod_cast Nat.pos_of_ne_zero hb
      rw [arg_eq_arctan hbR]
      split
      · rename_i hab
        obtain ⟨h1, h2, h3⟩ := acuteDegrees_near (Nat.pos_of_ne_zero ha) hab
        exact ⟨h1, h2.le, by linarith, fun _ => h2⟩
      · rename_i hab
        obtain ⟨h1, h2, h3⟩ := acuteDegrees_near (Nat.pos_of_ne_zero hb) (by omega : b ≤ a)
        refine ⟨?_, by linarith, by linarith, fun _ => by linarith⟩
        have hinv : Real.arctan ((a : ℝ) / b) = Real.pi / 2 - Real.arctan ((b : ℝ) / a) := by
          rw [← Real.arctan_inv_of_pos (by positivity), inv_div]
        have e : Real.arctan ((a : ℝ) / b) * 180 / Real.pi = 90 - Real.arctan ((b : ℝ) / a) * 180 / Real.pi := by
          rw [hinv]
          field_simp
          ring
        rw [e, abs_sub_comm]
        push_cast
        convert h1 using 2
        ring

/-- The candidate's angle is within `10^-11` of the normalised angle and lies in 0 to 360, 360 excluded. -/
theorem headingDegrees_near (ew ns : Int) :
    (let θ : ℝ := Complex.arg ⟨(ns : ℝ), (ew : ℝ)⟩ * 180 / Real.pi
     |((headingDegrees ew ns : ℚ) : ℝ) - (if θ < 0 then θ + 360 else θ)| ≤ 1 / 10 ^ 11) ∧
      0 ≤ headingDegrees ew ns ∧ headingDegrees ew ns < 360 := by
  have hpi := Real.pi_pos
  obtain ⟨h1, h2, h3, h4⟩ := quadrantDegrees_near ew.natAbs ns.natAbs
  set t := quadrantDegrees ew.natAbs ns.natAbs with ht
  -- the angle of the upper half plane
  have upper : ∀ y : ℝ, y = ew.natAbs →
      Complex.arg ⟨(ns : ℝ), y⟩ * 180 / Real.pi =
        if 0 ≤ ns then Complex.arg ⟨(ns.natAbs : ℝ), y⟩ * 180 / Real.pi
        else 180 - Complex.arg ⟨(ns.natAbs : ℝ), y⟩ * 180 / Real.pi := by
    intro y hy
    split
    · rename_i hn
      have : ((ns.natAbs : ℕ) : ℝ) = (ns : ℝ) := by rw [Nat.cast_natAbs, abs_of_nonneg hn]
      rw [this]
    · rename_i hn
      have hneg : ((ns.natAbs : ℕ) : ℝ) = -(ns : ℝ) := by
        rw [Nat.cast_natAbs, abs_of_nonpos (by omega : ns ≤ 0), Int.cast_neg]
      have hlt : (ns : ℝ) < 0 := by exact_mod_cast (by omega : ns < 0)
      rw [hneg, arg_neg_re hlt (hy ▸ Nat.cast_nonneg _)]
      field_simp
  simp only [headingDegrees]
  rw [← ht]
  obtain ⟨l1, u1⟩ := abs_le.1 h1
  by_cases he : 0 ≤ ew
  · have hey : (ew : ℝ) = ew.natAbs := by rw [Nat.cast_natAbs, abs_of_nonneg he]
    have hu := upper ew hey
    have hnn : ¬ (Complex.arg ⟨(ns : ℝ), (ew : ℝ)⟩ * 180 / Real.pi < 0) := by
      have : 0 ≤ Complex.arg ⟨(ns : ℝ), (ew : ℝ)⟩ := Complex.arg_nonneg_iff.2 (by show (0 : ℝ) ≤ ew; exact_mod_cast he)
      have : 0 ≤ Complex.arg ⟨(ns : ℝ), (ew : ℝ)⟩ * 180 / Real.pi := by positivity
      linarith
    rw [if_neg hnn, if_pos he, hu, hey]
    split
    · exact ⟨h1, h2, by linarith⟩
    · refine ⟨?_, by linarith, by linarith⟩
      push_cast
      rw [abs_le]
      constructor <;> linarith
  · have hpos : 0 < ew.natAbs := by omega
    have hey : (ew : ℝ) = -(ew.natAbs : ℝ) := by
      rw [Nat.cast_natAbs, abs_of_nonpos (by omega : ew ≤ 0), Int.cast_neg, neg_neg]
    have hyR : (0 : ℝ) < ew.natAbs := by exact_mod_cast hpos
    have hu := upper (ew.natAbs : ℝ) rfl
    have hneg : Complex.arg ⟨(ns : ℝ), (ew : ℝ)⟩ * 180 / Real.pi < 0 := by
      have : Complex.arg ⟨(ns : ℝ), (ew : ℝ)⟩ < 0 := Complex.arg_neg_iff.2 (by show (ew : ℝ) < 0; linarith)
      exact div_neg_of_neg_of_pos (by linarith) hpi
    have e : Complex.arg ⟨(ns : ℝ), (ew : ℝ)⟩ * 180 / Real.pi =
        -(Complex.arg ⟨(ns : ℝ), (ew.natAbs : ℝ)⟩ * 180 / Real.pi) := by
      rw [hey, arg_neg_im hyR]
      ring
    have ht0 := h4 hpos
    rw [if_pos hneg, if_neg he, e, hu]
    split
    · refine ⟨?_, by linarith, by linarith⟩
      push_cast
      rw [abs_le]
      constructor <;> linarith
    · refine ⟨?_, by linarith, by linarith⟩
      push_cast
      rw [abs_le]
      constructor <;> linarith

/-- The candidate meets the laws. -/
theorem headingCandidate_lawful (ew ns : Int) : HeadingLawsAt ew ns (headingCandidate ew ns) := by
  obtain ⟨h1, h2, h3⟩ := headingDegrees_near ew ns
  have exact_of : ∀ d : Nat, d < 360 → headingDegrees ew ns = d → headingCandidate ew ns = binary64OfScaled (d * 2 ^ 40) 40 := by
    intro d _ hd
    have : ⌊(headingDegrees ew ns) * 2 ^ 40⌋.toNat = d * 2 ^ 40 := by
      rw [hd]
      have : ((d : ℚ) * 2 ^ 40) = ((d * 2 ^ 40 : ℕ) : ℚ) := by push_cast; ring
      rw [this, Int.floor_natCast, Int.toNat_natCast]
    rw [headingCandidate, this]
  refine ⟨?_, ?_, ?_, ?_, ?_⟩
  · obtain ⟨m, hm⟩ : ∃ m : ℕ, ⌊headingDegrees ew ns * 2 ^ 40⌋ = m :=
      ⟨_, (Int.toNat_of_nonneg (Int.floor_nonneg.2 (by positivity))).symm⟩
    have hlo : (m : ℚ) ≤ headingDegrees ew ns * 2 ^ 40 := by
      have := Int.floor_le (headingDegrees ew ns * 2 ^ 40)
      rw [hm] at this
      exact_mod_cast this
    have hhi : headingDegrees ew ns * 2 ^ 40 < m + 1 := by
      have := Int.lt_floor_add_one (headingDegrees ew ns * 2 ^ 40)
      rw [hm] at this
      exact_mod_cast this
    have hmlt : m < 360 * 2 ^ 40 := by
      have : (m : ℚ) < 360 * 2 ^ 40 := lt_of_le_of_lt hlo (by
        have : (0 : ℚ) < 2 ^ 40 := by positivity
        nlinarith)
      exact_mod_cast this
    refine ⟨(m : ℚ) / 2 ^ 40, ?_, by positivity, ?_, ?_⟩
    · rw [headingCandidate, hm, Int.toNat_natCast]
      exact binary64Value_ofScaled m 40 (by omega) (by norm_num)
    · rw [div_lt_iff₀ (by positivity)]
      exact_mod_cast hmlt
    · simp only [nearHeading]
      simp only at h1
      obtain ⟨l, u⟩ := abs_le.1 h1
      have a1 : (m : ℚ) / 2 ^ 40 ≤ headingDegrees ew ns := by
        rw [div_le_iff₀ (by positivity)]
        exact hlo
      have a2 : headingDegrees ew ns ≤ (m : ℚ) / 2 ^ 40 + 1 / 2 ^ 40 := by
        rw [← add_div, le_div_iff₀ (by positivity)]
        exact hhi.le
      have b1 : (((m : ℚ) / 2 ^ 40 : ℚ) : ℝ) ≤ (headingDegrees ew ns : ℚ) := by exact_mod_cast a1
      have b2 : ((headingDegrees ew ns : ℚ) : ℝ) ≤ (((m : ℚ) / 2 ^ 40 : ℚ) : ℝ) + 1 / 2 ^ 40 := by
        have := (Rat.cast_le (K := ℝ)).2 a2
        rw [Rat.cast_add] at this
        simpa using this
      rw [abs_le]
      norm_num at *
      constructor <;> linarith
  · intro he hn
    subst he
    rw [exact_of 0 (by norm_num) (by simp [headingDegrees, quadrantDegrees, hn])]
    decide +kernel
  · intro he hn
    subst hn
    rw [exact_of 90 (by norm_num) (by simp [headingDegrees, quadrantDegrees, he.le, he.ne'])]
    decide +kernel
  · intro he hn
    subst he
    rw [exact_of 180 (by norm_num) (by simp [headingDegrees, quadrantDegrees, hn])]
    decide +kernel
  · intro he hn
    subst hn
    rw [exact_of 270 (by norm_num) (by
      simp [headingDegrees, quadrantDegrees, he.ne, not_le.2 he]
      norm_num)]
    decide +kernel

end Sys2Proof.Machine
end

