-- ==== Sys2Proof/Config.lean ====
section
/-! DEFINITION. The OPEN parameters of the block (00_scope.md R6), each a constant without a body, so that no proof can see
its value: a claim about the model holds whatever they are. CRC_TABLE, whose value the spec decides, is in
Machine/Rom.lean. -/

namespace Sys2Proof

/-- A row of the aircraft registry: four opaque strings (00_scope.md R11, 10_state.md R27, R29). The spec calls the
registry's "type" attribute `actype`. -/
structure AircraftRecord where
  regid : Text
  mdl : Text
  actype : Text
  operator : Text
  deriving DecidableEq, Repr

/-- `REGISTRY`: 24-bit ICAO to an optional aircraft record, OPEN (00_scope.md R6, 10_state.md R29; log entry 4). -/
opaque Config.registry : BitVec 24 → Option AircraftRecord

/-- A heading function that meets the laws of 41_extract.md R112. That it is a function of `(ew, ns)` is law H2. -/
structure HeadingFn where
  deg : Int → Int → Binary64
  lawful : ∀ ew ns, Machine.HeadingLawsAt ew ns (deg ew ns)

/-- Some heading function that meets the laws, OPEN: there is no body. Its argument only tells Lean that the type is not
empty; nothing relates the result to it (log entry 5). -/
opaque Config.someHeading (inhabited : Inhabited HeadingFn) : HeadingFn

/-- `HEADING_DEG`, OPEN: only laws H1 to H4 are known of it (00_scope.md R6, 41_extract.md R112; log entry 5). -/
def Config.headingDeg (ew ns : Int) : Binary64 :=
  (Config.someHeading ⟨⟨Machine.headingCandidate, Machine.headingCandidate_lawful⟩⟩).deg ew ns

/-- `EVEN_POLARITY`: the value of `pos_f` that means "even", OPEN (00_scope.md R6, 42_dispatch.md R150; log entry 9). -/
opaque Config.evenPolarity : Bool

/-- How many instances there are beyond the first, OPEN (log entry 9). -/
opaque Config.furtherInstances : Nat

/-- `N_INSTANCES`, an integer of at least 1, OPEN (00_scope.md R6, 60_exceptions.md R180; log entry 9). -/
def Config.nInstances : Nat := Config.furtherInstances + 1

end Sys2Proof
end

