-- ==== Sys2Proof/Machine/State.lean ====
section
/-! DEFINITION. The state of one instance of the decode core (10_state.md R20), the record and the ports it drives
(R27, R28), the events its host presents, the reasons a step can stop, and the state after reset
(70_reset_and_hazards.md R190, R192). -/

namespace Sys2Proof.Machine

/-! ### The output record (10_state.md R27) -/

/-- The raw position, one presence bit for the three fields: the CPR parity flag and the encoded latitude and longitude,
as read (10_state.md R27, 41_extract.md R109). -/
structure RawPosition where
  posF : Bool
  rawLat : BitVec 17
  rawLon : BitVec 17
  deriving DecidableEq, Repr

/-- Speed in knots and heading in degrees, one presence bit for the two (10_state.md R27). -/
structure Velocity where
  speed : Binary64
  heading : Binary64
  deriving DecidableEq, Repr

/-- The record of a RECORD outcome (10_state.md R27). A field whose presence bit is 0 is `none`. `altitude` is a 32-bit
two's complement number (00_scope.md R9). -/
structure Record where
  icao : BitVec 24
  crcValid : Bool
  altitude : Option (BitVec 32)
  callsign : Option Text
  position : Option RawPosition
  velocity : Option Velocity
  registry : Option AircraftRecord
  deriving DecidableEq, Repr

/-! ### Outcomes and ports (10_state.md R28, 60_exceptions.md R170) -/

/-- Why a line or a frame is MALFORMED (60_exceptions.md R170, R171). -/
inductive MalformedReason where
  /-- The front end finds no hex pairs in a non-empty line. -/
  | hex
  /-- `NB = 0`. -/
  | empty
  /-- The byte count is not the one of the type. -/
  | length (nb expected : Nat)
  deriving DecidableEq, Repr

/-- How a transaction ends, with the information the spec records (60_exceptions.md R170). -/
inductive TxOutcome where
  | record
  | malformed (reason : MalformedReason)
  | checksumMismatch (computed embedded : BitVec 24)
  deriving DecidableEq, Repr

/-- What an output port carries (10_state.md R28). -/
inductive PortEvent where
  /-- `OUTCOME`. -/
  | outcome (o : TxOutcome)
  /-- `RECORD_OUT`. -/
  | recordOut (r : Record)
  /-- `REG_LOOKUP`: the request and the host's response. -/
  | regLookup (icao : BitVec 24) (response : Option AircraftRecord)
  /-- `FAULT_OUT`. -/
  | faultOut (actionable : Bool)
  /-- The response of `STATUS_READ`. -/
  | statusRead (value : BitVec 8)
  deriving DecidableEq, Repr

/-- The registry the host supplied (10_state.md R29): the OPEN parameter, or a table given at boot (log entry 4). -/
inductive Registry where
  | parameter
  | table (rows : List (BitVec 24 × AircraftRecord))
  deriving DecidableEq, Repr

/-- What the host presents, one event a step (10_state.md R28, 42_dispatch.md R149, 70_reset_and_hazards.md R192). -/
inductive HostEvent where
  /-- `FRAME_IN`: the bytes; `NB` is how many there are. -/
  | frameIn (bytes : List Byte)
  /-- A text line, read by the front end. -/
  | line (text : Text)
  /-- `TRANSPORT_IN`. -/
  | transportIn
  /-- `STATUS_READ`. -/
  | statusRead
  /-- `RESET`. -/
  | reset
  /-- Boot step 1: the registry was loaded, or loading failed. -/
  | loadRegistry (loaded : Option Registry)
  deriving DecidableEq, Repr

/-- How far boot has come (70_reset_and_hazards.md R192; log entry 3). -/
inductive BootPhase where
  | awaitingRegistry
  | awaitingReset
  | running
  deriving DecidableEq, Repr

/-! ### The state -/

/-- One instance of the block and the model's account of its host side. `seenValid` and `latch` are the block's own
state (10_state.md R20); the other fields are the model's (log entries 1 to 4). -/
structure State where
  /-- `STATUS.SEEN_VALID`, the one bit of architectural state (10_state.md R20, R23, R24). -/
  seenValid : Bool
  /-- The frame latch `FL`: `FB`, `NB` being its length; `none` outside a transaction (10_state.md R20, R25;
  log entry 7). -/
  latch : Option (List Byte)
  /-- Boot progress. -/
  boot : BootPhase
  /-- Which registry the host supplied. -/
  registry : Registry
  /-- What the host is about to present, first event first. -/
  hostInput : List HostEvent
  /-- What the output ports have carried, oldest first. -/
  portLog : List PortEvent
  deriving DecidableEq, Repr

/-- Why a step stops. -/
inductive Fault where
  /-- A read beyond the frame or a table (20_memory.md R46, 93_implementation_defined.md U1: "fault, for a model that
  keeps a bounded bit reader"). Raised by recordTransaction. Safe: no frame reaches it (70_reset_and_hazards.md R194). -/
  | overRead
  /-- A frame or a line before boot has completed (70_reset_and_hazards.md R192; 60_exceptions.md R178: "no `FRAME_IN`
  transaction is accepted, and a model has no step for one"). Raised by acceptFrame and acceptLine. Safe. -/
  | notStarted
  /-- The registry could not be loaded (60_exceptions.md R178: "fatal, must abort startup"). Raised by acceptRegistry.
  Safe. -/
  | registryLoadFailure
  /-- A second registry load (10_state.md R29: "Loaded once at startup from a bundled table; never mutated"). Raised by
  acceptRegistry. Safe: the spec gives no such event. -/
  | registryReload
  deriving DecidableEq, Repr

/-- Why an instruction has no meaning. -/
inductive Refusal where
  /-- The instruction has no meaning in the model yet. Raised by exec alone; no arm raises it. Safe. -/
  | notModelled (mnemonic : String)
  deriving DecidableEq, Repr

/-- What a meaning answers. -/
abbrev Result := Host.Outcome State Fault Refusal

/-- The instance right after reset, at the launch premise of 70_reset_and_hazards.md R192: "`REGISTRY` fixed;
`STATUS = 0x00`; no transaction in progress" (R190; log entries 3, 4, 20). -/
def State.reset : State where
  seenValid := false
  latch := none
  boot := .running
  registry := .parameter
  hostInput := []
  portLog := []

/-- The instance at power-up: as after reset (70_reset_and_hazards.md R190: "After power-up the block is in this state"),
with boot still to come (R192). -/
def State.powerUp : State := { State.reset with boot := .awaitingRegistry }

end Sys2Proof.Machine
end

