-- ==== Sys2Proof/Machine/Ops.lean ====
section
/-! DEFINITION. The named operations: the bounded readers of the frame latch (00_scope.md R7, R8; 20_memory.md R46), the
registry lookup port, and the updates of the state a transaction makes. The block has no exceptions: `State.raise` is
the one way a transaction ends without a record, and there is no return from it (60_exceptions.md R175). -/

namespace Sys2Proof.Machine

/-! ### Reading the frame latch -/

/-- `FB[k]`; none at or beyond `NB` (00_scope.md R8). -/
def byteAt (fb : List Byte) (k : Nat) : Option Byte := fb[k]?

/-- `bit(j)`: bit `7 - (j mod 8)` of byte `j div 8` (00_scope.md R7). -/
def bitAt (fb : List Byte) (j : Nat) : Option Bool :=
  match byteAt fb (j / 8) with
  | some b => some (b.getLsbD (7 - j % 8))
  | none => none

/-- `F(a..a+n-1)`: `n` frame bits from position `a`, the first most significant (00_scope.md R8). -/
def bitField (fb : List Byte) (a n : Nat) : Option (BitVec n) :=
  match n with
  | 0 => some 0#0
  | k + 1 =>
    match bitField fb a k, bitAt fb (a + k) with
    | some hi, some b => some (hi.concat b)
    | _, _ => none

/-- `MemRead(k, n)`: `n` bytes from byte `k`, big-endian (00_scope.md R8, 20_memory.md R43). -/
def memRead (fb : List Byte) (k n : Nat) : Option (BitVec (8 * n)) :=
  match n with
  | 0 => some 0#0
  | j + 1 =>
    match memRead fb k j, byteAt fb (k + j) with
    | some hi, some b => some (hi ++ b)
    | _, _ => none

/-! ### The registry port -/

/-- `REGISTRY(icao)` (10_state.md R29, 42_dispatch.md R147). Of several rows of a table with one ICAO the first answers
(log entry 4). -/
def registryLookup (reg : Registry) (icao : BitVec 24) : Option AircraftRecord :=
  match reg with
  | .parameter => Config.registry icao
  | .table rows => rows.lookup icao

/-! ### A transaction's updates of the state -/

/-- `FL.NB <- NB; FL.FB <- bytes`: the latch is loaded at the start of a transaction (10_state.md R25,
42_dispatch.md R148). -/
def State.openTransaction (s : State) (fb : List Byte) : State := { s with latch := some fb }

/-- `FB`, the bytes of the latch; none of them outside a transaction (10_state.md R25). -/
def State.frame (s : State) : List Byte := s.latch.getD []

/-- The latch holds a value only while a transaction is in progress (10_state.md R20; log entry 7). -/
def State.closeTransaction (s : State) : State := { s with latch := none }

/-- Output ports carry `es`, in this order. -/
def State.emit (s : State) (es : List PortEvent) : State := { s with portLog := s.portLog ++ es }

/-- `raise`: the transaction ends with that outcome, no record, no registry lookup and no status change
(00_scope.md R8, 42_dispatch.md R148, 60_exceptions.md R170, R175). -/
def State.raise (s : State) (o : TxOutcome) : State := (s.emit [.outcome o]).closeTransaction

/-- `RESET` (70_reset_and_hazards.md R190, R191): SEEN_VALID is cleared, no transaction is in progress; the tables and
the registry are untouched. The reset that boot asks for completes boot (R192; log entry 3). -/
def State.takeReset (s : State) : State :=
  { s with
    seenValid := false
    latch := none
    boot := if s.boot = .awaitingRegistry then .awaitingRegistry else .running }

end Sys2Proof.Machine
end

