-- ==== Sys2Proof/Machine/Rom.lean ====
section
/-! DEFINITION. The two constant tables of the block (10_state.md R21, R22). No rule writes them and reset does not touch
them. -/

namespace Sys2Proof.Machine

/-- `CRC_TABLE` for frame bits 0 to 55 of a long frame, entries 0 to 55 (10_state.md R21). -/
def crcTableHead : List (BitVec 24) :=
  [0x3935EA, 0x1C9AF5, 0xF1B77E, 0x78DBBF, 0xC397DB, 0x9E31E9, 0xB0E2F0, 0x587178] ++
  [0x2C38BC, 0x161C5E, 0x0B0E2F, 0xFA7D13, 0x82C48D, 0xBE9842, 0x5F4C21, 0xD05C14] ++
  [0x682E0A, 0x341705, 0xE5F186, 0x72F8C3, 0xC68665, 0x9CB936, 0x4E5C9B, 0xD8D449] ++
  [0x939020, 0x49C810, 0x24E408, 0x127204, 0x093902, 0x049C81, 0xFDB444, 0x7EDA22] ++
  [0x3F6D11, 0xE04C8C, 0x702646, 0x381323, 0xE3F395, 0x8E03CE, 0x4701E7, 0xDC7AF7] ++
  [0x91C77F, 0xB719BB, 0xA476D9, 0xADC168, 0x56E0B4, 0x2B705A, 0x15B82D, 0xF52612] ++
  [0x7A9309, 0xC2B380, 0x6159C0, 0x30ACE0, 0x185670, 0x0C2B38, 0x06159C, 0x030ACE]

/-- `CRC_TABLE`, entries 56 to 111, the tail that short frames reuse (10_state.md R21, 40_crc.md R81). -/
def crcTableTail : List (BitVec 24) :=
  [0x018567, 0xFF38B7, 0x80665F, 0xBFC92B, 0xA01E91, 0xAFF54C, 0x57FAA6, 0x2BFD53] ++
  [0xEA04AD, 0x8AF852, 0x457C29, 0xDD4410, 0x6EA208, 0x375104, 0x1BA882, 0x0DD441] ++
  [0xF91024, 0x7C8812, 0x3E4409, 0xE0D800, 0x706C00, 0x383600, 0x1C1B00, 0x0E0D80] ++
  [0x0706C0, 0x038360, 0x01C1B0, 0x00E0D8, 0x00706C, 0x003836, 0x001C1B, 0xFFF409] ++
  [0x000000, 0x000000, 0x000000, 0x000000, 0x000000, 0x000000, 0x000000, 0x000000] ++
  [0x000000, 0x000000, 0x000000, 0x000000, 0x000000, 0x000000, 0x000000, 0x000000] ++
  [0x000000, 0x000000, 0x000000, 0x000000, 0x000000, 0x000000, 0x000000, 0x000000]

/-- `CRC_TABLE`: 112 entries of 24 bits (10_state.md R21). It is a parameter of the block with the value the spec decides
(00_scope.md R6; log entry 6). -/
def crcTable : List (BitVec 24) := crcTableHead ++ crcTableTail

/-- `CHARSET`: 64 entries, one ASCII character each (10_state.md R22). -/
def charset : List Char :=
  ['?', 'A', 'B', 'C', 'D', 'E', 'F', 'G'] ++
  ['H', 'I', 'J', 'K', 'L', 'M', 'N', 'O'] ++
  ['P', 'Q', 'R', 'S', 'T', 'U', 'V', 'W'] ++
  ['X', 'Y', 'Z', '?', '?', '?', '?', '?'] ++
  [' ', '?', '?', '?', '?', '?', '?', '?'] ++
  ['?', '?', '?', '?', '?', '?', '?', '?'] ++
  ['0', '1', '2', '3', '4', '5', '6', '7'] ++
  ['8', '9', '?', '?', '?', '?', '?', '?']

/-- `RomRead(CRC_TABLE, i)` on a given table; none beyond its end (00_scope.md R8, 20_memory.md R40). -/
def readCrcTable (table : List (BitVec 24)) (i : Nat) : Option (BitVec 24) := table[i]?

/-- `RomRead(CHARSET, c)` (00_scope.md R8, 20_memory.md R40). -/
def readCharset (c : BitVec 6) : Option Char := charset[c.toNat]?

end Sys2Proof.Machine
end

