-- ==== Sys2Proof/Machine/Crc.lean ====
section
/-! DEFINITION. The CRC-24 validator (40_crc.md R81 to R84). -/

namespace Sys2Proof.Machine

/-- `CRC_OFFSET(L)` (40_crc.md R81). -/
def crcOffset (len : Nat) : Nat := if len = 112 then 0 else 56

/-- The loop of `COMPUTE_CRC` over frame bits `0 .. n-1`: each set bit `j` XORs in entry `j + off` (40_crc.md R82). -/
def crcLoop (table : List (BitVec 24)) (fb : List Byte) (off n : Nat) : Option (BitVec 24) :=
  match n with
  | 0 => some 0
  | j + 1 =>
    match crcLoop table fb off j, bitAt fb j with
    | some acc, some true =>
      match readCrcTable table (j + off) with
      | some e => some (acc ^^^ e)
      | none => none
    | some acc, some false => some acc
    | _, _ => none

/-- `COMPUTE_CRC(FB, L)` with a given table (40_crc.md R82; 00_scope.md R6 makes the table a parameter). -/
def computeCrcWith (table : List (BitVec 24)) (fb : List Byte) (len : Nat) : Option (BitVec 24) :=
  (crcLoop table fb (crcOffset len) len).map (· &&& 0xFFFFFF)

/-- `COMPUTE_CRC(FB, L)` (40_crc.md R82). -/
def computeCrc (fb : List Byte) (len : Nat) : Option (BitVec 24) := computeCrcWith crcTable fb len

/-- `EMBEDDED_CRC(FB, L)`: the last three bytes, big-endian (40_crc.md R83). -/
def embeddedCrc (fb : List Byte) (len : Nat) : Option (BitVec 24) := memRead fb (len / 8 - 3) 3

/-- The verdict on a frame (40_crc.md R84). -/
inductive Verdict where
  | valid
  | mismatch (computed embedded : BitVec 24)
  deriving DecidableEq, Repr

/-- `CRC_VERDICT(FB, L)` (40_crc.md R84). -/
def crcVerdict (fb : List Byte) (len : Nat) : Option Verdict :=
  match computeCrc fb len, embeddedCrc fb len with
  | some c, some e => some (if c = e then .valid else .mismatch c e)
  | _, _ => none

end Sys2Proof.Machine
end

