-- ==== Sys2Proof/Machine/Flags.lean ====
section
/-! DEFINITION. The flags of the block: the status register (10_state.md R23, R24) and the presence bits of a record
(R27). The block has no condition codes (R20). -/

namespace Sys2Proof.Machine

/-- `STATUS` as the 8-bit register the host reads: SEEN_VALID in bit 0, bits 7:1 hard-wired 0 (10_state.md R23). -/
def State.statusRegister (s : State) : BitVec 8 := 0#7 ++ BitVec.ofBool s.seenValid

/-- `STATUS.SEEN_VALID <- 1` (10_state.md R24). -/
def State.markSeenValid (s : State) : State := { s with seenValid := true }

/-- `FAULT_OUT.actionable`: no valid frame has been seen yet (60_exceptions.md R177). -/
def State.actionable (s : State) : Bool := !s.seenValid

/-- `present(altitude)` (10_state.md R27). -/
def Record.presentAltitude (r : Record) : Bool := r.altitude.isSome

/-- `present(callsign)` (10_state.md R27). -/
def Record.presentCallsign (r : Record) : Bool := r.callsign.isSome

/-- `present(position)`, shared by `pos_f`, `raw_lat` and `raw_lon` (10_state.md R27). -/
def Record.presentPosition (r : Record) : Bool := r.position.isSome

/-- `present(velocity)`, shared by `speed` and `heading` (10_state.md R27). -/
def Record.presentVelocity (r : Record) : Bool := r.velocity.isSome

/-- `present(registry)`, shared by the four registry strings (10_state.md R27). -/
def Record.presentRegistry (r : Record) : Bool := r.registry.isSome

/-- The numeric code on the `OUTCOME` port (10_state.md R28, 60_exceptions.md R170). -/
def TxOutcome.code (o : TxOutcome) : Nat :=
  match o with
  | .record => 0
  | .malformed _ => 1
  | .checksumMismatch _ _ => 2

end Sys2Proof.Machine
end

