-- ==== Sys2Proof/Syntax.lean ====
section
/-! DEFINITION. The frames of the decode core as instructions: one constructor per row of spec/opcode_table.json
(30_encoding.md R63, R64). A frame's key (DF, and TC, ST for type 17) selects the constructor; the operands are the
frame bits the key leaves free (30_encoding.md R61, R62):
* fs   : frame bits 5..7 (low3, "flight_status"), 3 bits;
* icao : frame bits 8..31, 24 bits (it contains AC13, bits 19..31);
* me   : frame bits 32..87 of a long frame whose type is not 17, 56 bits;
* st   : frame bits 37..39 where the row leaves ST free, 3 bits;
* body : frame bits 40..87 of a type 17 frame, 48 bits;
* crc  : the embedded checksum, the last 24 bits. -/

namespace Sys2Proof

/-- The five dispatch classes (30_encoding.md R64). -/
inductive DispatchClass where
  | alt13
  | ident
  | posvel
  | pos
  | min
  deriving DecidableEq, Repr

/-- One constructor per dispatch key of spec/opcode_table.json. -/
inductive Instr where
  /-- `ALT13.DF0`: type 0, SHORT56 (42_dispatch.md R141). -/
  | alt13Df0 (fs : BitVec 3) (icao crc : BitVec 24)
  /-- `MIN.DF1`: type 1, SHORT56 (42_dispatch.md R145). -/
  | minDf1 (fs : BitVec 3) (icao crc : BitVec 24)
  /-- `MIN.DF2`: type 2, SHORT56 (42_dispatch.md R145). -/
  | minDf2 (fs : BitVec 3) (icao crc : BitVec 24)
  /-- `MIN.DF3`: type 3, SHORT56 (42_dispatch.md R145). -/
  | minDf3 (fs : BitVec 3) (icao crc : BitVec 24)
  /-- `ALT13.DF4`: type 4, SHORT56 (42_dispatch.md R141). -/
  | alt13Df4 (fs : BitVec 3) (icao crc : BitVec 24)
  /-- `MIN.DF5`: type 5, SHORT56 (42_dispatch.md R145). -/
  | minDf5 (fs : BitVec 3) (icao crc : BitVec 24)
  /-- `MIN.DF6`: type 6, SHORT56 (42_dispatch.md R145). -/
  | minDf6 (fs : BitVec 3) (icao crc : BitVec 24)
  /-- `MIN.DF7`: type 7, SHORT56 (42_dispatch.md R145). -/
  | minDf7 (fs : BitVec 3) (icao crc : BitVec 24)
  /-- `MIN.DF8`: type 8, SHORT56 (42_dispatch.md R145). -/
  | minDf8 (fs : BitVec 3) (icao crc : BitVec 24)
  /-- `MIN.DF9`: type 9, SHORT56 (42_dispatch.md R145). -/
  | minDf9 (fs : BitVec 3) (icao crc : BitVec 24)
  /-- `MIN.DF10`: type 10, SHORT56 (42_dispatch.md R145). -/
  | minDf10 (fs : BitVec 3) (icao crc : BitVec 24)
  /-- `MIN.DF11`: type 11, SHORT56 (42_dispatch.md R145). -/
  | minDf11 (fs : BitVec 3) (icao crc : BitVec 24)
  /-- `MIN.DF12`: type 12, SHORT56 (42_dispatch.md R145). -/
  | minDf12 (fs : BitVec 3) (icao crc : BitVec 24)
  /-- `MIN.DF13`: type 13, SHORT56 (42_dispatch.md R145). -/
  | minDf13 (fs : BitVec 3) (icao crc : BitVec 24)
  /-- `MIN.DF14`: type 14, SHORT56 (42_dispatch.md R145). -/
  | minDf14 (fs : BitVec 3) (icao crc : BitVec 24)
  /-- `MIN.DF15`: type 15, SHORT56 (42_dispatch.md R145). -/
  | minDf15 (fs : BitVec 3) (icao crc : BitVec 24)
  /-- `ALT13.DF16`: type 16, LONG112 (42_dispatch.md R141). -/
  | alt13Df16 (fs : BitVec 3) (icao : BitVec 24) (me : BitVec 56) (crc : BitVec 24)
  /-- `MIN.DF18`: type 18, SHORT56 (42_dispatch.md R145). -/
  | minDf18 (fs : BitVec 3) (icao crc : BitVec 24)
  /-- `MIN.DF19`: type 19, LONG112 (42_dispatch.md R145). -/
  | minDf19 (fs : BitVec 3) (icao : BitVec 24) (me : BitVec 56) (crc : BitVec 24)
  /-- `ALT13.DF20`: type 20, LONG112 (42_dispatch.md R141). -/
  | alt13Df20 (fs : BitVec 3) (icao : BitVec 24) (me : BitVec 56) (crc : BitVec 24)
  /-- `MIN.DF21`: type 21, LONG112 (42_dispatch.md R145). -/
  | minDf21 (fs : BitVec 3) (icao : BitVec 24) (me : BitVec 56) (crc : BitVec 24)
  /-- `MIN.DF22`: type 22, SHORT56 (42_dispatch.md R145). -/
  | minDf22 (fs : BitVec 3) (icao crc : BitVec 24)
  /-- `MIN.DF23`: type 23, SHORT56 (42_dispatch.md R145). -/
  | minDf23 (fs : BitVec 3) (icao crc : BitVec 24)
  /-- `MIN.DF24`: type 24, SHORT56 (42_dispatch.md R145). -/
  | minDf24 (fs : BitVec 3) (icao crc : BitVec 24)
  /-- `MIN.DF25`: type 25, SHORT56 (42_dispatch.md R145). -/
  | minDf25 (fs : BitVec 3) (icao crc : BitVec 24)
  /-- `MIN.DF26`: type 26, SHORT56 (42_dispatch.md R145). -/
  | minDf26 (fs : BitVec 3) (icao crc : BitVec 24)
  /-- `MIN.DF27`: type 27, SHORT56 (42_dispatch.md R145). -/
  | minDf27 (fs : BitVec 3) (icao crc : BitVec 24)
  /-- `MIN.DF28`: type 28, SHORT56 (42_dispatch.md R145). -/
  | minDf28 (fs : BitVec 3) (icao crc : BitVec 24)
  /-- `MIN.DF29`: type 29, SHORT56 (42_dispatch.md R145). -/
  | minDf29 (fs : BitVec 3) (icao crc : BitVec 24)
  /-- `MIN.DF30`: type 30, SHORT56 (42_dispatch.md R145). -/
  | minDf30 (fs : BitVec 3) (icao crc : BitVec 24)
  /-- `MIN.DF31`: type 31, SHORT56 (42_dispatch.md R145). -/
  | minDf31 (fs : BitVec 3) (icao crc : BitVec 24)
  /-- `MIN.DF17.TC0`: type 17, TC 0, LONG112 (42_dispatch.md R145). -/
  | minDf17Tc0 (fs : BitVec 3) (icao : BitVec 24) (st : BitVec 3) (body : BitVec 48) (crc : BitVec 24)
  /-- `IDENT.TC1`: type 17, TC 1, LONG112 (42_dispatch.md R142). -/
  | identTc1 (fs : BitVec 3) (icao : BitVec 24) (st : BitVec 3) (body : BitVec 48) (crc : BitVec 24)
  /-- `IDENT.TC2`: type 17, TC 2, LONG112 (42_dispatch.md R142). -/
  | identTc2 (fs : BitVec 3) (icao : BitVec 24) (st : BitVec 3) (body : BitVec 48) (crc : BitVec 24)
  /-- `IDENT.TC3`: type 17, TC 3, LONG112 (42_dispatch.md R142). -/
  | identTc3 (fs : BitVec 3) (icao : BitVec 24) (st : BitVec 3) (body : BitVec 48) (crc : BitVec 24)
  /-- `IDENT.TC4`: type 17, TC 4, LONG112 (42_dispatch.md R142). -/
  | identTc4 (fs : BitVec 3) (icao : BitVec 24) (st : BitVec 3) (body : BitVec 48) (crc : BitVec 24)
  /-- `MIN.DF17.TC5`: type 17, TC 5, LONG112 (42_dispatch.md R145). -/
  | minDf17Tc5 (fs : BitVec 3) (icao : BitVec 24) (st : BitVec 3) (body : BitVec 48) (crc : BitVec 24)
  /-- `MIN.DF17.TC6`: type 17, TC 6, LONG112 (42_dispatch.md R145). -/
  | minDf17Tc6 (fs : BitVec 3) (icao : BitVec 24) (st : BitVec 3) (body : BitVec 48) (crc : BitVec 24)
  /-- `MIN.DF17.TC7`: type 17, TC 7, LONG112 (42_dispatch.md R145). -/
  | minDf17Tc7 (fs : BitVec 3) (icao : BitVec 24) (st : BitVec 3) (body : BitVec 48) (crc : BitVec 24)
  /-- `MIN.DF17.TC8`: type 17, TC 8, LONG112 (42_dispatch.md R145). -/
  | minDf17Tc8 (fs : BitVec 3) (icao : BitVec 24) (st : BitVec 3) (body : BitVec 48) (crc : BitVec 24)
  /-- `MIN.DF17.TC9`: type 17, TC 9, LONG112 (42_dispatch.md R145). -/
  | minDf17Tc9 (fs : BitVec 3) (icao : BitVec 24) (st : BitVec 3) (body : BitVec 48) (crc : BitVec 24)
  /-- `MIN.DF17.TC10`: type 17, TC 10, LONG112 (42_dispatch.md R145). -/
  | minDf17Tc10 (fs : BitVec 3) (icao : BitVec 24) (st : BitVec 3) (body : BitVec 48) (crc : BitVec 24)
  /-- `MIN.DF17.TC11`: type 17, TC 11, LONG112 (42_dispatch.md R145). -/
  | minDf17Tc11 (fs : BitVec 3) (icao : BitVec 24) (st : BitVec 3) (body : BitVec 48) (crc : BitVec 24)
  /-- `MIN.DF17.TC12`: type 17, TC 12, LONG112 (42_dispatch.md R145). -/
  | minDf17Tc12 (fs : BitVec 3) (icao : BitVec 24) (st : BitVec 3) (body : BitVec 48) (crc : BitVec 24)
  /-- `MIN.DF17.TC13`: type 17, TC 13, LONG112 (42_dispatch.md R145). -/
  | minDf17Tc13 (fs : BitVec 3) (icao : BitVec 24) (st : BitVec 3) (body : BitVec 48) (crc : BitVec 24)
  /-- `MIN.DF17.TC14`: type 17, TC 14, LONG112 (42_dispatch.md R145). -/
  | minDf17Tc14 (fs : BitVec 3) (icao : BitVec 24) (st : BitVec 3) (body : BitVec 48) (crc : BitVec 24)
  /-- `MIN.DF17.TC15`: type 17, TC 15, LONG112 (42_dispatch.md R145). -/
  | minDf17Tc15 (fs : BitVec 3) (icao : BitVec 24) (st : BitVec 3) (body : BitVec 48) (crc : BitVec 24)
  /-- `MIN.DF17.TC16`: type 17, TC 16, LONG112 (42_dispatch.md R145). -/
  | minDf17Tc16 (fs : BitVec 3) (icao : BitVec 24) (st : BitVec 3) (body : BitVec 48) (crc : BitVec 24)
  /-- `MIN.DF17.TC17`: type 17, TC 17, LONG112 (42_dispatch.md R145). -/
  | minDf17Tc17 (fs : BitVec 3) (icao : BitVec 24) (st : BitVec 3) (body : BitVec 48) (crc : BitVec 24)
  /-- `MIN.DF17.TC18`: type 17, TC 18, LONG112 (42_dispatch.md R145). -/
  | minDf17Tc18 (fs : BitVec 3) (icao : BitVec 24) (st : BitVec 3) (body : BitVec 48) (crc : BitVec 24)
  /-- `MIN.DF17.TC20`: type 17, TC 20, LONG112 (42_dispatch.md R145). -/
  | minDf17Tc20 (fs : BitVec 3) (icao : BitVec 24) (st : BitVec 3) (body : BitVec 48) (crc : BitVec 24)
  /-- `MIN.DF17.TC21`: type 17, TC 21, LONG112 (42_dispatch.md R145). -/
  | minDf17Tc21 (fs : BitVec 3) (icao : BitVec 24) (st : BitVec 3) (body : BitVec 48) (crc : BitVec 24)
  /-- `MIN.DF17.TC22`: type 17, TC 22, LONG112 (42_dispatch.md R145). -/
  | minDf17Tc22 (fs : BitVec 3) (icao : BitVec 24) (st : BitVec 3) (body : BitVec 48) (crc : BitVec 24)
  /-- `MIN.DF17.TC23`: type 17, TC 23, LONG112 (42_dispatch.md R145). -/
  | minDf17Tc23 (fs : BitVec 3) (icao : BitVec 24) (st : BitVec 3) (body : BitVec 48) (crc : BitVec 24)
  /-- `MIN.DF17.TC24`: type 17, TC 24, LONG112 (42_dispatch.md R145). -/
  | minDf17Tc24 (fs : BitVec 3) (icao : BitVec 24) (st : BitVec 3) (body : BitVec 48) (crc : BitVec 24)
  /-- `MIN.DF17.TC25`: type 17, TC 25, LONG112 (42_dispatch.md R145). -/
  | minDf17Tc25 (fs : BitVec 3) (icao : BitVec 24) (st : BitVec 3) (body : BitVec 48) (crc : BitVec 24)
  /-- `MIN.DF17.TC26`: type 17, TC 26, LONG112 (42_dispatch.md R145). -/
  | minDf17Tc26 (fs : BitVec 3) (icao : BitVec 24) (st : BitVec 3) (body : BitVec 48) (crc : BitVec 24)
  /-- `MIN.DF17.TC27`: type 17, TC 27, LONG112 (42_dispatch.md R145). -/
  | minDf17Tc27 (fs : BitVec 3) (icao : BitVec 24) (st : BitVec 3) (body : BitVec 48) (crc : BitVec 24)
  /-- `MIN.DF17.TC28`: type 17, TC 28, LONG112 (42_dispatch.md R145). -/
  | minDf17Tc28 (fs : BitVec 3) (icao : BitVec 24) (st : BitVec 3) (body : BitVec 48) (crc : BitVec 24)
  /-- `MIN.DF17.TC29`: type 17, TC 29, LONG112 (42_dispatch.md R145). -/
  | minDf17Tc29 (fs : BitVec 3) (icao : BitVec 24) (st : BitVec 3) (body : BitVec 48) (crc : BitVec 24)
  /-- `MIN.DF17.TC30`: type 17, TC 30, LONG112 (42_dispatch.md R145). -/
  | minDf17Tc30 (fs : BitVec 3) (icao : BitVec 24) (st : BitVec 3) (body : BitVec 48) (crc : BitVec 24)
  /-- `MIN.DF17.TC31`: type 17, TC 31, LONG112 (42_dispatch.md R145). -/
  | minDf17Tc31 (fs : BitVec 3) (icao : BitVec 24) (st : BitVec 3) (body : BitVec 48) (crc : BitVec 24)
  /-- `MIN.DF17.TC19.ST0`: type 17, TC 19, ST 0, LONG112 (42_dispatch.md R145). -/
  | minDf17Tc19St0 (fs : BitVec 3) (icao : BitVec 24) (body : BitVec 48) (crc : BitVec 24)
  /-- `POSVEL.ST1`: type 17, TC 19, ST 1, LONG112 (42_dispatch.md R143). -/
  | posvelSt1 (fs : BitVec 3) (icao : BitVec 24) (body : BitVec 48) (crc : BitVec 24)
  /-- `POSVEL.ST2`: type 17, TC 19, ST 2, LONG112 (42_dispatch.md R143). -/
  | posvelSt2 (fs : BitVec 3) (icao : BitVec 24) (body : BitVec 48) (crc : BitVec 24)
  /-- `POS.ST3`: type 17, TC 19, ST 3, LONG112 (42_dispatch.md R144). -/
  | posSt3 (fs : BitVec 3) (icao : BitVec 24) (body : BitVec 48) (crc : BitVec 24)
  /-- `POS.ST4`: type 17, TC 19, ST 4, LONG112 (42_dispatch.md R144). -/
  | posSt4 (fs : BitVec 3) (icao : BitVec 24) (body : BitVec 48) (crc : BitVec 24)
  /-- `MIN.DF17.TC19.ST5`: type 17, TC 19, ST 5, LONG112 (42_dispatch.md R145). -/
  | minDf17Tc19St5 (fs : BitVec 3) (icao : BitVec 24) (body : BitVec 48) (crc : BitVec 24)
  /-- `MIN.DF17.TC19.ST6`: type 17, TC 19, ST 6, LONG112 (42_dispatch.md R145). -/
  | minDf17Tc19St6 (fs : BitVec 3) (icao : BitVec 24) (body : BitVec 48) (crc : BitVec 24)
  /-- `MIN.DF17.TC19.ST7`: type 17, TC 19, ST 7, LONG112 (42_dispatch.md R145). -/
  | minDf17Tc19St7 (fs : BitVec 3) (icao : BitVec 24) (body : BitVec 48) (crc : BitVec 24)
  deriving DecidableEq, Repr

end Sys2Proof
end

