-- ==== Sys2Proof/Decode.lean ====
section
/-! DEFINITION. Frames as bytes and the instruction they encode (30_encoding.md): the length rule (40_crc.md R80), the
decoder (total on any bytes, rejecting by name), the encoder written from the same field map (R61, R62), the opcode
table's rows (R63, R64), and the two readings of a table word that the host asks for. -/

namespace Sys2Proof

/-! ### The length rule -/

/-- `LEN_BY_TYPE(t)`: the bit length of a frame of type `t` (40_crc.md R80). -/
def lenByType (t : BitVec 5) : Nat :=
  if t = 16#5 ∨ t = 17#5 ∨ t = 19#5 ∨ t = 20#5 ∨ t = 21#5 then 112 else 56

/-- The type field of byte 0: its top five bits (30_encoding.md R61). -/
def typeBits (b0 : Byte) : BitVec 5 := b0.extractLsb' 3 5

/-- Byte 0's low three bits (30_encoding.md R61). -/
def low3Bits (b0 : Byte) : BitVec 3 := b0.extractLsb' 0 3

/-! ### The encoder -/

/-- A SHORT56 frame, byte 0 first: type, low3, ICAO in bytes 1..3, checksum in bytes 4..6 (30_encoding.md R61). -/
def shortFrame (df : BitVec 5) (fs : BitVec 3) (icao crc : BitVec 24) : List Byte :=
  [df ++ fs,
   icao.extractLsb' 16 8, icao.extractLsb' 8 8, icao.extractLsb' 0 8,
   crc.extractLsb' 16 8, crc.extractLsb' 8 8, crc.extractLsb' 0 8]

/-- A LONG112 frame, byte 0 first: type, low3, ICAO in bytes 1..3, byte 4, bytes 5..10, checksum in bytes 11..13
(30_encoding.md R61, R62). -/
def longFrame (df : BitVec 5) (fs : BitVec 3) (icao : BitVec 24) (b4 : Byte) (body : BitVec 48) (crc : BitVec 24) :
    List Byte :=
  [df ++ fs,
   icao.extractLsb' 16 8, icao.extractLsb' 8 8, icao.extractLsb' 0 8,
   b4,
   body.extractLsb' 40 8, body.extractLsb' 32 8, body.extractLsb' 24 8,
   body.extractLsb' 16 8, body.extractLsb' 8 8, body.extractLsb' 0 8,
   crc.extractLsb' 16 8, crc.extractLsb' 8 8, crc.extractLsb' 0 8]

/-- The frame an instruction stands for, byte 0 first. -/
def encode (i : Instr) : List Byte :=
  match i with
  | .alt13Df0 fs icao crc => shortFrame 0#5 fs icao crc
  | .minDf1 fs icao crc => shortFrame 1#5 fs icao crc
  | .minDf2 fs icao crc => shortFrame 2#5 fs icao crc
  | .minDf3 fs icao crc => shortFrame 3#5 fs icao crc
  | .alt13Df4 fs icao crc => shortFrame 4#5 fs icao crc
  | .minDf5 fs icao crc => shortFrame 5#5 fs icao crc
  | .minDf6 fs icao crc => shortFrame 6#5 fs icao crc
  | .minDf7 fs icao crc => shortFrame 7#5 fs icao crc
  | .minDf8 fs icao crc => shortFrame 8#5 fs icao crc
  | .minDf9 fs icao crc => shortFrame 9#5 fs icao crc
  | .minDf10 fs icao crc => shortFrame 10#5 fs icao crc
  | .minDf11 fs icao crc => shortFrame 11#5 fs icao crc
  | .minDf12 fs icao crc => shortFrame 12#5 fs icao crc
  | .minDf13 fs icao crc => shortFrame 13#5 fs icao crc
  | .minDf14 fs icao crc => shortFrame 14#5 fs icao crc
  | .minDf15 fs icao crc => shortFrame 15#5 fs icao crc
  | .alt13Df16 fs icao me crc => longFrame 16#5 fs icao (me.extractLsb' 48 8) (me.extractLsb' 0 48) crc
  | .minDf18 fs icao crc => shortFrame 18#5 fs icao crc
  | .minDf19 fs icao me crc => longFrame 19#5 fs icao (me.extractLsb' 48 8) (me.extractLsb' 0 48) crc
  | .alt13Df20 fs icao me crc => longFrame 20#5 fs icao (me.extractLsb' 48 8) (me.extractLsb' 0 48) crc
  | .minDf21 fs icao me crc => longFrame 21#5 fs icao (me.extractLsb' 48 8) (me.extractLsb' 0 48) crc
  | .minDf22 fs icao crc => shortFrame 22#5 fs icao crc
  | .minDf23 fs icao crc => shortFrame 23#5 fs icao crc
  | .minDf24 fs icao crc => shortFrame 24#5 fs icao crc
  | .minDf25 fs icao crc => shortFrame 25#5 fs icao crc
  | .minDf26 fs icao crc => shortFrame 26#5 fs icao crc
  | .minDf27 fs icao crc => shortFrame 27#5 fs icao crc
  | .minDf28 fs icao crc => shortFrame 28#5 fs icao crc
  | .minDf29 fs icao crc => shortFrame 29#5 fs icao crc
  | .minDf30 fs icao crc => shortFrame 30#5 fs icao crc
  | .minDf31 fs icao crc => shortFrame 31#5 fs icao crc
  | .minDf17Tc0 fs icao st body crc => longFrame 17#5 fs icao (0#5 ++ st) body crc
  | .identTc1 fs icao st body crc => longFrame 17#5 fs icao (1#5 ++ st) body crc
  | .identTc2 fs icao st body crc => longFrame 17#5 fs icao (2#5 ++ st) body crc
  | .identTc3 fs icao st body crc => longFrame 17#5 fs icao (3#5 ++ st) body crc
  | .identTc4 fs icao st body crc => longFrame 17#5 fs icao (4#5 ++ st) body crc
  | .minDf17Tc5 fs icao st body crc => longFrame 17#5 fs icao (5#5 ++ st) body crc
  | .minDf17Tc6 fs icao st body crc => longFrame 17#5 fs icao (6#5 ++ st) body crc
  | .minDf17Tc7 fs icao st body crc => longFrame 17#5 fs icao (7#5 ++ st) body crc
  | .minDf17Tc8 fs icao st body crc => longFrame 17#5 fs icao (8#5 ++ st) body crc
  | .minDf17Tc9 fs icao st body crc => longFrame 17#5 fs icao (9#5 ++ st) body crc
  | .minDf17Tc10 fs icao st body crc => longFrame 17#5 fs icao (10#5 ++ st) body crc
  | .minDf17Tc11 fs icao st body crc => longFrame 17#5 fs icao (11#5 ++ st) body crc
  | .minDf17Tc12 fs icao st body crc => longFrame 17#5 fs icao (12#5 ++ st) body crc
  | .minDf17Tc13 fs icao st body crc => longFrame 17#5 fs icao (13#5 ++ st) body crc
  | .minDf17Tc14 fs icao st body crc => longFrame 17#5 fs icao (14#5 ++ st) body crc
  | .minDf17Tc15 fs icao st body crc => longFrame 17#5 fs icao (15#5 ++ st) body crc
  | .minDf17Tc16 fs icao st body crc => longFrame 17#5 fs icao (16#5 ++ st) body crc
  | .minDf17Tc17 fs icao st body crc => longFrame 17#5 fs icao (17#5 ++ st) body crc
  | .minDf17Tc18 fs icao st body crc => longFrame 17#5 fs icao (18#5 ++ st) body crc
  | .minDf17Tc20 fs icao st body crc => longFrame 17#5 fs icao (20#5 ++ st) body crc
  | .minDf17Tc21 fs icao st body crc => longFrame 17#5 fs icao (21#5 ++ st) body crc
  | .minDf17Tc22 fs icao st body crc => longFrame 17#5 fs icao (22#5 ++ st) body crc
  | .minDf17Tc23 fs icao st body crc => longFrame 17#5 fs icao (23#5 ++ st) body crc
  | .minDf17Tc24 fs icao st body crc => longFrame 17#5 fs icao (24#5 ++ st) body crc
  | .minDf17Tc25 fs icao st body crc => longFrame 17#5 fs icao (25#5 ++ st) body crc
  | .minDf17Tc26 fs icao st body crc => longFrame 17#5 fs icao (26#5 ++ st) body crc
  | .minDf17Tc27 fs icao st body crc => longFrame 17#5 fs icao (27#5 ++ st) body crc
  | .minDf17Tc28 fs icao st body crc => longFrame 17#5 fs icao (28#5 ++ st) body crc
  | .minDf17Tc29 fs icao st body crc => longFrame 17#5 fs icao (29#5 ++ st) body crc
  | .minDf17Tc30 fs icao st body crc => longFrame 17#5 fs icao (30#5 ++ st) body crc
  | .minDf17Tc31 fs icao st body crc => longFrame 17#5 fs icao (31#5 ++ st) body crc
  | .minDf17Tc19St0 fs icao body crc => longFrame 17#5 fs icao (19#5 ++ 0#3) body crc
  | .posvelSt1 fs icao body crc => longFrame 17#5 fs icao (19#5 ++ 1#3) body crc
  | .posvelSt2 fs icao body crc => longFrame 17#5 fs icao (19#5 ++ 2#3) body crc
  | .posSt3 fs icao body crc => longFrame 17#5 fs icao (19#5 ++ 3#3) body crc
  | .posSt4 fs icao body crc => longFrame 17#5 fs icao (19#5 ++ 4#3) body crc
  | .minDf17Tc19St5 fs icao body crc => longFrame 17#5 fs icao (19#5 ++ 5#3) body crc
  | .minDf17Tc19St6 fs icao body crc => longFrame 17#5 fs icao (19#5 ++ 6#3) body crc
  | .minDf17Tc19St7 fs icao body crc => longFrame 17#5 fs icao (19#5 ++ 7#3) body crc

/-! ### The decoder -/

/-- Why bytes are not a frame of the block (60_exceptions.md R171). -/
inductive DecodeError where
  /-- No bytes at all. -/
  | empty
  /-- `nb` bytes where the type asks for `expected`. -/
  | length (nb expected : Nat)
  deriving DecidableEq, Repr

/-- The type 17, TC 19 rows, by ST (30_encoding.md R64). -/
def decodeSubtype (fs : BitVec 3) (icao : BitVec 24) (st : BitVec 3) (body : BitVec 48) (crc : BitVec 24) :
    Option Instr :=
  match st.toNat with
  | 0 => some (.minDf17Tc19St0 fs icao body crc)
  | 1 => some (.posvelSt1 fs icao body crc)
  | 2 => some (.posvelSt2 fs icao body crc)
  | 3 => some (.posSt3 fs icao body crc)
  | 4 => some (.posSt4 fs icao body crc)
  | 5 => some (.minDf17Tc19St5 fs icao body crc)
  | 6 => some (.minDf17Tc19St6 fs icao body crc)
  | 7 => some (.minDf17Tc19St7 fs icao body crc)
  | _ => none

/-- The type 17 rows, by TC and, for TC 19, by ST (30_encoding.md R64). -/
def decodeTypeCode (fs : BitVec 3) (icao : BitVec 24) (tc : BitVec 5) (st : BitVec 3) (body : BitVec 48)
    (crc : BitVec 24) : Option Instr :=
  match tc.toNat with
  | 0 => some (.minDf17Tc0 fs icao st body crc)
  | 1 => some (.identTc1 fs icao st body crc)
  | 2 => some (.identTc2 fs icao st body crc)
  | 3 => some (.identTc3 fs icao st body crc)
  | 4 => some (.identTc4 fs icao st body crc)
  | 5 => some (.minDf17Tc5 fs icao st body crc)
  | 6 => some (.minDf17Tc6 fs icao st body crc)
  | 7 => some (.minDf17Tc7 fs icao st body crc)
  | 8 => some (.minDf17Tc8 fs icao st body crc)
  | 9 => some (.minDf17Tc9 fs icao st body crc)
  | 10 => some (.minDf17Tc10 fs icao st body crc)
  | 11 => some (.minDf17Tc11 fs icao st body crc)
  | 12 => some (.minDf17Tc12 fs icao st body crc)
  | 13 => some (.minDf17Tc13 fs icao st body crc)
  | 14 => some (.minDf17Tc14 fs icao st body crc)
  | 15 => some (.minDf17Tc15 fs icao st body crc)
  | 16 => some (.minDf17Tc16 fs icao st body crc)
  | 17 => some (.minDf17Tc17 fs icao st body crc)
  | 18 => some (.minDf17Tc18 fs icao st body crc)
  | 19 => decodeSubtype fs icao st body crc
  | 20 => some (.minDf17Tc20 fs icao st body crc)
  | 21 => some (.minDf17Tc21 fs icao st body crc)
  | 22 => some (.minDf17Tc22 fs icao st body crc)
  | 23 => some (.minDf17Tc23 fs icao st body crc)
  | 24 => some (.minDf17Tc24 fs icao st body crc)
  | 25 => some (.minDf17Tc25 fs icao st body crc)
  | 26 => some (.minDf17Tc26 fs icao st body crc)
  | 27 => some (.minDf17Tc27 fs icao st body crc)
  | 28 => some (.minDf17Tc28 fs icao st body crc)
  | 29 => some (.minDf17Tc29 fs icao st body crc)
  | 30 => some (.minDf17Tc30 fs icao st body crc)
  | 31 => some (.minDf17Tc31 fs icao st body crc)
  | _ => none

/-- The rows of a 7-byte frame, by type; none for a type whose frames are long (30_encoding.md R60, R64). -/
def decodeShort (df : BitVec 5) (fs : BitVec 3) (icao crc : BitVec 24) : Option Instr :=
  match df.toNat with
  | 0 => some (.alt13Df0 fs icao crc)
  | 1 => some (.minDf1 fs icao crc)
  | 2 => some (.minDf2 fs icao crc)
  | 3 => some (.minDf3 fs icao crc)
  | 4 => some (.alt13Df4 fs icao crc)
  | 5 => some (.minDf5 fs icao crc)
  | 6 => some (.minDf6 fs icao crc)
  | 7 => some (.minDf7 fs icao crc)
  | 8 => some (.minDf8 fs icao crc)
  | 9 => some (.minDf9 fs icao crc)
  | 10 => some (.minDf10 fs icao crc)
  | 11 => some (.minDf11 fs icao crc)
  | 12 => some (.minDf12 fs icao crc)
  | 13 => some (.minDf13 fs icao crc)
  | 14 => some (.minDf14 fs icao crc)
  | 15 => some (.minDf15 fs icao crc)
  | 18 => some (.minDf18 fs icao crc)
  | 22 => some (.minDf22 fs icao crc)
  | 23 => some (.minDf23 fs icao crc)
  | 24 => some (.minDf24 fs icao crc)
  | 25 => some (.minDf25 fs icao crc)
  | 26 => some (.minDf26 fs icao crc)
  | 27 => some (.minDf27 fs icao crc)
  | 28 => some (.minDf28 fs icao crc)
  | 29 => some (.minDf29 fs icao crc)
  | 30 => some (.minDf30 fs icao crc)
  | 31 => some (.minDf31 fs icao crc)
  | _ => none

/-- The rows of a 14-byte frame, by type; none for a type whose frames are short (30_encoding.md R60, R64). Byte 4 is
TC and ST when the type is 17 (R63). -/
def decodeLong (df : BitVec 5) (fs : BitVec 3) (icao : BitVec 24) (b4 : Byte) (body : BitVec 48) (crc : BitVec 24) :
    Option Instr :=
  match df.toNat with
  | 16 => some (.alt13Df16 fs icao (b4 ++ body) crc)
  | 17 => decodeTypeCode fs icao (typeBits b4) (low3Bits b4) body crc
  | 19 => some (.minDf19 fs icao (b4 ++ body) crc)
  | 20 => some (.alt13Df20 fs icao (b4 ++ body) crc)
  | 21 => some (.minDf21 fs icao (b4 ++ body) crc)
  | _ => none

/-- What a frame of `nb` bytes whose byte 0 is `b0` decodes to, given its row where its type has that length: the byte
count must be the one of the type (42_dispatch.md R148). -/
def lengthChecked (nb : Nat) (b0 : Byte) (row : Option Instr) : Except DecodeError Instr :=
  match row with
  | some i => .ok i
  | none => .error (.length nb (lenByType (typeBits b0) / 8))

/-- The decoder: the instruction that the bytes of a frame stand for, or why there is none (30_encoding.md R60 to R65,
42_dispatch.md R148). No key is illegal (R65); only a byte count is refused. -/
def decode (bytes : List Byte) : Except DecodeError Instr :=
  match bytes with
  | [] => .error .empty
  | [b0, b1, b2, b3, b4, b5, b6] =>
    lengthChecked 7 b0 (decodeShort (typeBits b0) (low3Bits b0) (b1 ++ b2 ++ b3) (b4 ++ b5 ++ b6))
  | [b0, b1, b2, b3, b4, b5, b6, b7, b8, b9, b10, b11, b12, b13] =>
    lengthChecked 14 b0 (decodeLong (typeBits b0) (low3Bits b0) (b1 ++ b2 ++ b3) b4
      (b5 ++ b6 ++ b7 ++ b8 ++ b9 ++ b10) (b11 ++ b12 ++ b13))
  | b0 :: rest => lengthChecked (rest.length + 1) b0 none

/-! ### Views of an instruction's fields -/

/-- The dispatch class of an instruction's row, by the class its mnemonic begins with (30_encoding.md R64). -/
def Instr.cls (i : Instr) : DispatchClass :=
  match i with
  | .alt13Df0 _ _ _ => .alt13
  | .minDf1 _ _ _ => .min
  | .minDf2 _ _ _ => .min
  | .minDf3 _ _ _ => .min
  | .alt13Df4 _ _ _ => .alt13
  | .minDf5 _ _ _ => .min
  | .minDf6 _ _ _ => .min
  | .minDf7 _ _ _ => .min
  | .minDf8 _ _ _ => .min
  | .minDf9 _ _ _ => .min
  | .minDf10 _ _ _ => .min
  | .minDf11 _ _ _ => .min
  | .minDf12 _ _ _ => .min
  | .minDf13 _ _ _ => .min
  | .minDf14 _ _ _ => .min
  | .minDf15 _ _ _ => .min
  | .alt13Df16 _ _ _ _ => .alt13
  | .minDf18 _ _ _ => .min
  | .minDf19 _ _ _ _ => .min
  | .alt13Df20 _ _ _ _ => .alt13
  | .minDf21 _ _ _ _ => .min
  | .minDf22 _ _ _ => .min
  | .minDf23 _ _ _ => .min
  | .minDf24 _ _ _ => .min
  | .minDf25 _ _ _ => .min
  | .minDf26 _ _ _ => .min
  | .minDf27 _ _ _ => .min
  | .minDf28 _ _ _ => .min
  | .minDf29 _ _ _ => .min
  | .minDf30 _ _ _ => .min
  | .minDf31 _ _ _ => .min
  | .minDf17Tc0 _ _ _ _ _ => .min
  | .identTc1 _ _ _ _ _ => .ident
  | .identTc2 _ _ _ _ _ => .ident
  | .identTc3 _ _ _ _ _ => .ident
  | .identTc4 _ _ _ _ _ => .ident
  | .minDf17Tc5 _ _ _ _ _ => .min
  | .minDf17Tc6 _ _ _ _ _ => .min
  | .minDf17Tc7 _ _ _ _ _ => .min
  | .minDf17Tc8 _ _ _ _ _ => .min
  | .minDf17Tc9 _ _ _ _ _ => .min
  | .minDf17Tc10 _ _ _ _ _ => .min
  | .minDf17Tc11 _ _ _ _ _ => .min
  | .minDf17Tc12 _ _ _ _ _ => .min
  | .minDf17Tc13 _ _ _ _ _ => .min
  | .minDf17Tc14 _ _ _ _ _ => .min
  | .minDf17Tc15 _ _ _ _ _ => .min
  | .minDf17Tc16 _ _ _ _ _ => .min
  | .minDf17Tc17 _ _ _ _ _ => .min
  | .minDf17Tc18 _ _ _ _ _ => .min
  | .minDf17Tc20 _ _ _ _ _ => .min
  | .minDf17Tc21 _ _ _ _ _ => .min
  | .minDf17Tc22 _ _ _ _ _ => .min
  | .minDf17Tc23 _ _ _ _ _ => .min
  | .minDf17Tc24 _ _ _ _ _ => .min
  | .minDf17Tc25 _ _ _ _ _ => .min
  | .minDf17Tc26 _ _ _ _ _ => .min
  | .minDf17Tc27 _ _ _ _ _ => .min
  | .minDf17Tc28 _ _ _ _ _ => .min
  | .minDf17Tc29 _ _ _ _ _ => .min
  | .minDf17Tc30 _ _ _ _ _ => .min
  | .minDf17Tc31 _ _ _ _ _ => .min
  | .minDf17Tc19St0 _ _ _ _ => .min
  | .posvelSt1 _ _ _ _ => .posvel
  | .posvelSt2 _ _ _ _ => .posvel
  | .posSt3 _ _ _ _ => .pos
  | .posSt4 _ _ _ _ => .pos
  | .minDf17Tc19St5 _ _ _ _ => .min
  | .minDf17Tc19St6 _ _ _ _ => .min
  | .minDf17Tc19St7 _ _ _ _ => .min

/-- The `icao` operand of an instruction (30_encoding.md R61). -/
def Instr.icao (i : Instr) : BitVec 24 :=
  match i with
  | .alt13Df0 _ icao _ => icao
  | .minDf1 _ icao _ => icao
  | .minDf2 _ icao _ => icao
  | .minDf3 _ icao _ => icao
  | .alt13Df4 _ icao _ => icao
  | .minDf5 _ icao _ => icao
  | .minDf6 _ icao _ => icao
  | .minDf7 _ icao _ => icao
  | .minDf8 _ icao _ => icao
  | .minDf9 _ icao _ => icao
  | .minDf10 _ icao _ => icao
  | .minDf11 _ icao _ => icao
  | .minDf12 _ icao _ => icao
  | .minDf13 _ icao _ => icao
  | .minDf14 _ icao _ => icao
  | .minDf15 _ icao _ => icao
  | .alt13Df16 _ icao _ _ => icao
  | .minDf18 _ icao _ => icao
  | .minDf19 _ icao _ _ => icao
  | .alt13Df20 _ icao _ _ => icao
  | .minDf21 _ icao _ _ => icao
  | .minDf22 _ icao _ => icao
  | .minDf23 _ icao _ => icao
  | .minDf24 _ icao _ => icao
  | .minDf25 _ icao _ => icao
  | .minDf26 _ icao _ => icao
  | .minDf27 _ icao _ => icao
  | .minDf28 _ icao _ => icao
  | .minDf29 _ icao _ => icao
  | .minDf30 _ icao _ => icao
  | .minDf31 _ icao _ => icao
  | .minDf17Tc0 _ icao _ _ _ => icao
  | .identTc1 _ icao _ _ _ => icao
  | .identTc2 _ icao _ _ _ => icao
  | .identTc3 _ icao _ _ _ => icao
  | .identTc4 _ icao _ _ _ => icao
  | .minDf17Tc5 _ icao _ _ _ => icao
  | .minDf17Tc6 _ icao _ _ _ => icao
  | .minDf17Tc7 _ icao _ _ _ => icao
  | .minDf17Tc8 _ icao _ _ _ => icao
  | .minDf17Tc9 _ icao _ _ _ => icao
  | .minDf17Tc10 _ icao _ _ _ => icao
  | .minDf17Tc11 _ icao _ _ _ => icao
  | .minDf17Tc12 _ icao _ _ _ => icao
  | .minDf17Tc13 _ icao _ _ _ => icao
  | .minDf17Tc14 _ icao _ _ _ => icao
  | .minDf17Tc15 _ icao _ _ _ => icao
  | .minDf17Tc16 _ icao _ _ _ => icao
  | .minDf17Tc17 _ icao _ _ _ => icao
  | .minDf17Tc18 _ icao _ _ _ => icao
  | .minDf17Tc20 _ icao _ _ _ => icao
  | .minDf17Tc21 _ icao _ _ _ => icao
  | .minDf17Tc22 _ icao _ _ _ => icao
  | .minDf17Tc23 _ icao _ _ _ => icao
  | .minDf17Tc24 _ icao _ _ _ => icao
  | .minDf17Tc25 _ icao _ _ _ => icao
  | .minDf17Tc26 _ icao _ _ _ => icao
  | .minDf17Tc27 _ icao _ _ _ => icao
  | .minDf17Tc28 _ icao _ _ _ => icao
  | .minDf17Tc29 _ icao _ _ _ => icao
  | .minDf17Tc30 _ icao _ _ _ => icao
  | .minDf17Tc31 _ icao _ _ _ => icao
  | .minDf17Tc19St0 _ icao _ _ => icao
  | .posvelSt1 _ icao _ _ => icao
  | .posvelSt2 _ icao _ _ => icao
  | .posSt3 _ icao _ _ => icao
  | .posSt4 _ icao _ _ => icao
  | .minDf17Tc19St5 _ icao _ _ => icao
  | .minDf17Tc19St6 _ icao _ _ => icao
  | .minDf17Tc19St7 _ icao _ _ => icao

/-- The `crc` operand of an instruction (30_encoding.md R61). -/
def Instr.crc (i : Instr) : BitVec 24 :=
  match i with
  | .alt13Df0 _ _ crc => crc
  | .minDf1 _ _ crc => crc
  | .minDf2 _ _ crc => crc
  | .minDf3 _ _ crc => crc
  | .alt13Df4 _ _ crc => crc
  | .minDf5 _ _ crc => crc
  | .minDf6 _ _ crc => crc
  | .minDf7 _ _ crc => crc
  | .minDf8 _ _ crc => crc
  | .minDf9 _ _ crc => crc
  | .minDf10 _ _ crc => crc
  | .minDf11 _ _ crc => crc
  | .minDf12 _ _ crc => crc
  | .minDf13 _ _ crc => crc
  | .minDf14 _ _ crc => crc
  | .minDf15 _ _ crc => crc
  | .alt13Df16 _ _ _ crc => crc
  | .minDf18 _ _ crc => crc
  | .minDf19 _ _ _ crc => crc
  | .alt13Df20 _ _ _ crc => crc
  | .minDf21 _ _ _ crc => crc
  | .minDf22 _ _ crc => crc
  | .minDf23 _ _ crc => crc
  | .minDf24 _ _ crc => crc
  | .minDf25 _ _ crc => crc
  | .minDf26 _ _ crc => crc
  | .minDf27 _ _ crc => crc
  | .minDf28 _ _ crc => crc
  | .minDf29 _ _ crc => crc
  | .minDf30 _ _ crc => crc
  | .minDf31 _ _ crc => crc
  | .minDf17Tc0 _ _ _ _ crc => crc
  | .identTc1 _ _ _ _ crc => crc
  | .identTc2 _ _ _ _ crc => crc
  | .identTc3 _ _ _ _ crc => crc
  | .identTc4 _ _ _ _ crc => crc
  | .minDf17Tc5 _ _ _ _ crc => crc
  | .minDf17Tc6 _ _ _ _ crc => crc
  | .minDf17Tc7 _ _ _ _ crc => crc
  | .minDf17Tc8 _ _ _ _ crc => crc
  | .minDf17Tc9 _ _ _ _ crc => crc
  | .minDf17Tc10 _ _ _ _ crc => crc
  | .minDf17Tc11 _ _ _ _ crc => crc
  | .minDf17Tc12 _ _ _ _ crc => crc
  | .minDf17Tc13 _ _ _ _ crc => crc
  | .minDf17Tc14 _ _ _ _ crc => crc
  | .minDf17Tc15 _ _ _ _ crc => crc
  | .minDf17Tc16 _ _ _ _ crc => crc
  | .minDf17Tc17 _ _ _ _ crc => crc
  | .minDf17Tc18 _ _ _ _ crc => crc
  | .minDf17Tc20 _ _ _ _ crc => crc
  | .minDf17Tc21 _ _ _ _ crc => crc
  | .minDf17Tc22 _ _ _ _ crc => crc
  | .minDf17Tc23 _ _ _ _ crc => crc
  | .minDf17Tc24 _ _ _ _ crc => crc
  | .minDf17Tc25 _ _ _ _ crc => crc
  | .minDf17Tc26 _ _ _ _ crc => crc
  | .minDf17Tc27 _ _ _ _ crc => crc
  | .minDf17Tc28 _ _ _ _ crc => crc
  | .minDf17Tc29 _ _ _ _ crc => crc
  | .minDf17Tc30 _ _ _ _ crc => crc
  | .minDf17Tc31 _ _ _ _ crc => crc
  | .minDf17Tc19St0 _ _ _ crc => crc
  | .posvelSt1 _ _ _ crc => crc
  | .posvelSt2 _ _ _ crc => crc
  | .posSt3 _ _ _ crc => crc
  | .posSt4 _ _ _ crc => crc
  | .minDf17Tc19St5 _ _ _ crc => crc
  | .minDf17Tc19St6 _ _ _ crc => crc
  | .minDf17Tc19St7 _ _ _ crc => crc

/-- The `fs` operand of an instruction (30_encoding.md R61). -/
def Instr.fs (i : Instr) : BitVec 3 :=
  match i with
  | .alt13Df0 fs _ _ => fs
  | .minDf1 fs _ _ => fs
  | .minDf2 fs _ _ => fs
  | .minDf3 fs _ _ => fs
  | .alt13Df4 fs _ _ => fs
  | .minDf5 fs _ _ => fs
  | .minDf6 fs _ _ => fs
  | .minDf7 fs _ _ => fs
  | .minDf8 fs _ _ => fs
  | .minDf9 fs _ _ => fs
  | .minDf10 fs _ _ => fs
  | .minDf11 fs _ _ => fs
  | .minDf12 fs _ _ => fs
  | .minDf13 fs _ _ => fs
  | .minDf14 fs _ _ => fs
  | .minDf15 fs _ _ => fs
  | .alt13Df16 fs _ _ _ => fs
  | .minDf18 fs _ _ => fs
  | .minDf19 fs _ _ _ => fs
  | .alt13Df20 fs _ _ _ => fs
  | .minDf21 fs _ _ _ => fs
  | .minDf22 fs _ _ => fs
  | .minDf23 fs _ _ => fs
  | .minDf24 fs _ _ => fs
  | .minDf25 fs _ _ => fs
  | .minDf26 fs _ _ => fs
  | .minDf27 fs _ _ => fs
  | .minDf28 fs _ _ => fs
  | .minDf29 fs _ _ => fs
  | .minDf30 fs _ _ => fs
  | .minDf31 fs _ _ => fs
  | .minDf17Tc0 fs _ _ _ _ => fs
  | .identTc1 fs _ _ _ _ => fs
  | .identTc2 fs _ _ _ _ => fs
  | .identTc3 fs _ _ _ _ => fs
  | .identTc4 fs _ _ _ _ => fs
  | .minDf17Tc5 fs _ _ _ _ => fs
  | .minDf17Tc6 fs _ _ _ _ => fs
  | .minDf17Tc7 fs _ _ _ _ => fs
  | .minDf17Tc8 fs _ _ _ _ => fs
  | .minDf17Tc9 fs _ _ _ _ => fs
  | .minDf17Tc10 fs _ _ _ _ => fs
  | .minDf17Tc11 fs _ _ _ _ => fs
  | .minDf17Tc12 fs _ _ _ _ => fs
  | .minDf17Tc13 fs _ _ _ _ => fs
  | .minDf17Tc14 fs _ _ _ _ => fs
  | .minDf17Tc15 fs _ _ _ _ => fs
  | .minDf17Tc16 fs _ _ _ _ => fs
  | .minDf17Tc17 fs _ _ _ _ => fs
  | .minDf17Tc18 fs _ _ _ _ => fs
  | .minDf17Tc20 fs _ _ _ _ => fs
  | .minDf17Tc21 fs _ _ _ _ => fs
  | .minDf17Tc22 fs _ _ _ _ => fs
  | .minDf17Tc23 fs _ _ _ _ => fs
  | .minDf17Tc24 fs _ _ _ _ => fs
  | .minDf17Tc25 fs _ _ _ _ => fs
  | .minDf17Tc26 fs _ _ _ _ => fs
  | .minDf17Tc27 fs _ _ _ _ => fs
  | .minDf17Tc28 fs _ _ _ _ => fs
  | .minDf17Tc29 fs _ _ _ _ => fs
  | .minDf17Tc30 fs _ _ _ _ => fs
  | .minDf17Tc31 fs _ _ _ _ => fs
  | .minDf17Tc19St0 fs _ _ _ => fs
  | .posvelSt1 fs _ _ _ => fs
  | .posvelSt2 fs _ _ _ => fs
  | .posSt3 fs _ _ _ => fs
  | .posSt4 fs _ _ _ => fs
  | .minDf17Tc19St5 fs _ _ _ => fs
  | .minDf17Tc19St6 fs _ _ _ => fs
  | .minDf17Tc19St7 fs _ _ _ => fs

/-- The type field of an instruction's row (30_encoding.md R61). -/
def Instr.df (i : Instr) : BitVec 5 :=
  match i with
  | .alt13Df0 _ _ _ => 0#5
  | .minDf1 _ _ _ => 1#5
  | .minDf2 _ _ _ => 2#5
  | .minDf3 _ _ _ => 3#5
  | .alt13Df4 _ _ _ => 4#5
  | .minDf5 _ _ _ => 5#5
  | .minDf6 _ _ _ => 6#5
  | .minDf7 _ _ _ => 7#5
  | .minDf8 _ _ _ => 8#5
  | .minDf9 _ _ _ => 9#5
  | .minDf10 _ _ _ => 10#5
  | .minDf11 _ _ _ => 11#5
  | .minDf12 _ _ _ => 12#5
  | .minDf13 _ _ _ => 13#5
  | .minDf14 _ _ _ => 14#5
  | .minDf15 _ _ _ => 15#5
  | .alt13Df16 _ _ _ _ => 16#5
  | .minDf18 _ _ _ => 18#5
  | .minDf19 _ _ _ _ => 19#5
  | .alt13Df20 _ _ _ _ => 20#5
  | .minDf21 _ _ _ _ => 21#5
  | .minDf22 _ _ _ => 22#5
  | .minDf23 _ _ _ => 23#5
  | .minDf24 _ _ _ => 24#5
  | .minDf25 _ _ _ => 25#5
  | .minDf26 _ _ _ => 26#5
  | .minDf27 _ _ _ => 27#5
  | .minDf28 _ _ _ => 28#5
  | .minDf29 _ _ _ => 29#5
  | .minDf30 _ _ _ => 30#5
  | .minDf31 _ _ _ => 31#5
  | .minDf17Tc0 _ _ _ _ _ => 17#5
  | .identTc1 _ _ _ _ _ => 17#5
  | .identTc2 _ _ _ _ _ => 17#5
  | .identTc3 _ _ _ _ _ => 17#5
  | .identTc4 _ _ _ _ _ => 17#5
  | .minDf17Tc5 _ _ _ _ _ => 17#5
  | .minDf17Tc6 _ _ _ _ _ => 17#5
  | .minDf17Tc7 _ _ _ _ _ => 17#5
  | .minDf17Tc8 _ _ _ _ _ => 17#5
  | .minDf17Tc9 _ _ _ _ _ => 17#5
  | .minDf17Tc10 _ _ _ _ _ => 17#5
  | .minDf17Tc11 _ _ _ _ _ => 17#5
  | .minDf17Tc12 _ _ _ _ _ => 17#5
  | .minDf17Tc13 _ _ _ _ _ => 17#5
  | .minDf17Tc14 _ _ _ _ _ => 17#5
  | .minDf17Tc15 _ _ _ _ _ => 17#5
  | .minDf17Tc16 _ _ _ _ _ => 17#5
  | .minDf17Tc17 _ _ _ _ _ => 17#5
  | .minDf17Tc18 _ _ _ _ _ => 17#5
  | .minDf17Tc20 _ _ _ _ _ => 17#5
  | .minDf17Tc21 _ _ _ _ _ => 17#5
  | .minDf17Tc22 _ _ _ _ _ => 17#5
  | .minDf17Tc23 _ _ _ _ _ => 17#5
  | .minDf17Tc24 _ _ _ _ _ => 17#5
  | .minDf17Tc25 _ _ _ _ _ => 17#5
  | .minDf17Tc26 _ _ _ _ _ => 17#5
  | .minDf17Tc27 _ _ _ _ _ => 17#5
  | .minDf17Tc28 _ _ _ _ _ => 17#5
  | .minDf17Tc29 _ _ _ _ _ => 17#5
  | .minDf17Tc30 _ _ _ _ _ => 17#5
  | .minDf17Tc31 _ _ _ _ _ => 17#5
  | .minDf17Tc19St0 _ _ _ _ => 17#5
  | .posvelSt1 _ _ _ _ => 17#5
  | .posvelSt2 _ _ _ _ => 17#5
  | .posSt3 _ _ _ _ => 17#5
  | .posSt4 _ _ _ _ => 17#5
  | .minDf17Tc19St5 _ _ _ _ => 17#5
  | .minDf17Tc19St6 _ _ _ _ => 17#5
  | .minDf17Tc19St7 _ _ _ _ => 17#5

/-- The instruction with its embedded checksum replaced (40_crc.md R85.3). -/
def Instr.withCrc (i : Instr) (c : BitVec 24) : Instr :=
  match i with
  | .alt13Df0 fs icao _ => .alt13Df0 fs icao c
  | .minDf1 fs icao _ => .minDf1 fs icao c
  | .minDf2 fs icao _ => .minDf2 fs icao c
  | .minDf3 fs icao _ => .minDf3 fs icao c
  | .alt13Df4 fs icao _ => .alt13Df4 fs icao c
  | .minDf5 fs icao _ => .minDf5 fs icao c
  | .minDf6 fs icao _ => .minDf6 fs icao c
  | .minDf7 fs icao _ => .minDf7 fs icao c
  | .minDf8 fs icao _ => .minDf8 fs icao c
  | .minDf9 fs icao _ => .minDf9 fs icao c
  | .minDf10 fs icao _ => .minDf10 fs icao c
  | .minDf11 fs icao _ => .minDf11 fs icao c
  | .minDf12 fs icao _ => .minDf12 fs icao c
  | .minDf13 fs icao _ => .minDf13 fs icao c
  | .minDf14 fs icao _ => .minDf14 fs icao c
  | .minDf15 fs icao _ => .minDf15 fs icao c
  | .alt13Df16 fs icao me _ => .alt13Df16 fs icao me c
  | .minDf18 fs icao _ => .minDf18 fs icao c
  | .minDf19 fs icao me _ => .minDf19 fs icao me c
  | .alt13Df20 fs icao me _ => .alt13Df20 fs icao me c
  | .minDf21 fs icao me _ => .minDf21 fs icao me c
  | .minDf22 fs icao _ => .minDf22 fs icao c
  | .minDf23 fs icao _ => .minDf23 fs icao c
  | .minDf24 fs icao _ => .minDf24 fs icao c
  | .minDf25 fs icao _ => .minDf25 fs icao c
  | .minDf26 fs icao _ => .minDf26 fs icao c
  | .minDf27 fs icao _ => .minDf27 fs icao c
  | .minDf28 fs icao _ => .minDf28 fs icao c
  | .minDf29 fs icao _ => .minDf29 fs icao c
  | .minDf30 fs icao _ => .minDf30 fs icao c
  | .minDf31 fs icao _ => .minDf31 fs icao c
  | .minDf17Tc0 fs icao st body _ => .minDf17Tc0 fs icao st body c
  | .identTc1 fs icao st body _ => .identTc1 fs icao st body c
  | .identTc2 fs icao st body _ => .identTc2 fs icao st body c
  | .identTc3 fs icao st body _ => .identTc3 fs icao st body c
  | .identTc4 fs icao st body _ => .identTc4 fs icao st body c
  | .minDf17Tc5 fs icao st body _ => .minDf17Tc5 fs icao st body c
  | .minDf17Tc6 fs icao st body _ => .minDf17Tc6 fs icao st body c
  | .minDf17Tc7 fs icao st body _ => .minDf17Tc7 fs icao st body c
  | .minDf17Tc8 fs icao st body _ => .minDf17Tc8 fs icao st body c
  | .minDf17Tc9 fs icao st body _ => .minDf17Tc9 fs icao st body c
  | .minDf17Tc10 fs icao st body _ => .minDf17Tc10 fs icao st body c
  | .minDf17Tc11 fs icao st body _ => .minDf17Tc11 fs icao st body c
  | .minDf17Tc12 fs icao st body _ => .minDf17Tc12 fs icao st body c
  | .minDf17Tc13 fs icao st body _ => .minDf17Tc13 fs icao st body c
  | .minDf17Tc14 fs icao st body _ => .minDf17Tc14 fs icao st body c
  | .minDf17Tc15 fs icao st body _ => .minDf17Tc15 fs icao st body c
  | .minDf17Tc16 fs icao st body _ => .minDf17Tc16 fs icao st body c
  | .minDf17Tc17 fs icao st body _ => .minDf17Tc17 fs icao st body c
  | .minDf17Tc18 fs icao st body _ => .minDf17Tc18 fs icao st body c
  | .minDf17Tc20 fs icao st body _ => .minDf17Tc20 fs icao st body c
  | .minDf17Tc21 fs icao st body _ => .minDf17Tc21 fs icao st body c
  | .minDf17Tc22 fs icao st body _ => .minDf17Tc22 fs icao st body c
  | .minDf17Tc23 fs icao st body _ => .minDf17Tc23 fs icao st body c
  | .minDf17Tc24 fs icao st body _ => .minDf17Tc24 fs icao st body c
  | .minDf17Tc25 fs icao st body _ => .minDf17Tc25 fs icao st body c
  | .minDf17Tc26 fs icao st body _ => .minDf17Tc26 fs icao st body c
  | .minDf17Tc27 fs icao st body _ => .minDf17Tc27 fs icao st body c
  | .minDf17Tc28 fs icao st body _ => .minDf17Tc28 fs icao st body c
  | .minDf17Tc29 fs icao st body _ => .minDf17Tc29 fs icao st body c
  | .minDf17Tc30 fs icao st body _ => .minDf17Tc30 fs icao st body c
  | .minDf17Tc31 fs icao st body _ => .minDf17Tc31 fs icao st body c
  | .minDf17Tc19St0 fs icao body _ => .minDf17Tc19St0 fs icao body c
  | .posvelSt1 fs icao body _ => .posvelSt1 fs icao body c
  | .posvelSt2 fs icao body _ => .posvelSt2 fs icao body c
  | .posSt3 fs icao body _ => .posSt3 fs icao body c
  | .posSt4 fs icao body _ => .posSt4 fs icao body c
  | .minDf17Tc19St5 fs icao body _ => .minDf17Tc19St5 fs icao body c
  | .minDf17Tc19St6 fs icao body _ => .minDf17Tc19St6 fs icao body c
  | .minDf17Tc19St7 fs icao body _ => .minDf17Tc19St7 fs icao body c

/-- The mnemonic of an instruction's row in spec/opcode_table.json (30_encoding.md R64). -/
def Instr.mnemonic (i : Instr) : String :=
  match i with
  | .alt13Df0 _ _ _ => "ALT13.DF0"
  | .minDf1 _ _ _ => "MIN.DF1"
  | .minDf2 _ _ _ => "MIN.DF2"
  | .minDf3 _ _ _ => "MIN.DF3"
  | .alt13Df4 _ _ _ => "ALT13.DF4"
  | .minDf5 _ _ _ => "MIN.DF5"
  | .minDf6 _ _ _ => "MIN.DF6"
  | .minDf7 _ _ _ => "MIN.DF7"
  | .minDf8 _ _ _ => "MIN.DF8"
  | .minDf9 _ _ _ => "MIN.DF9"
  | .minDf10 _ _ _ => "MIN.DF10"
  | .minDf11 _ _ _ => "MIN.DF11"
  | .minDf12 _ _ _ => "MIN.DF12"
  | .minDf13 _ _ _ => "MIN.DF13"
  | .minDf14 _ _ _ => "MIN.DF14"
  | .minDf15 _ _ _ => "MIN.DF15"
  | .alt13Df16 _ _ _ _ => "ALT13.DF16"
  | .minDf18 _ _ _ => "MIN.DF18"
  | .minDf19 _ _ _ _ => "MIN.DF19"
  | .alt13Df20 _ _ _ _ => "ALT13.DF20"
  | .minDf21 _ _ _ _ => "MIN.DF21"
  | .minDf22 _ _ _ => "MIN.DF22"
  | .minDf23 _ _ _ => "MIN.DF23"
  | .minDf24 _ _ _ => "MIN.DF24"
  | .minDf25 _ _ _ => "MIN.DF25"
  | .minDf26 _ _ _ => "MIN.DF26"
  | .minDf27 _ _ _ => "MIN.DF27"
  | .minDf28 _ _ _ => "MIN.DF28"
  | .minDf29 _ _ _ => "MIN.DF29"
  | .minDf30 _ _ _ => "MIN.DF30"
  | .minDf31 _ _ _ => "MIN.DF31"
  | .minDf17Tc0 _ _ _ _ _ => "MIN.DF17.TC0"
  | .identTc1 _ _ _ _ _ => "IDENT.TC1"
  | .identTc2 _ _ _ _ _ => "IDENT.TC2"
  | .identTc3 _ _ _ _ _ => "IDENT.TC3"
  | .identTc4 _ _ _ _ _ => "IDENT.TC4"
  | .minDf17Tc5 _ _ _ _ _ => "MIN.DF17.TC5"
  | .minDf17Tc6 _ _ _ _ _ => "MIN.DF17.TC6"
  | .minDf17Tc7 _ _ _ _ _ => "MIN.DF17.TC7"
  | .minDf17Tc8 _ _ _ _ _ => "MIN.DF17.TC8"
  | .minDf17Tc9 _ _ _ _ _ => "MIN.DF17.TC9"
  | .minDf17Tc10 _ _ _ _ _ => "MIN.DF17.TC10"
  | .minDf17Tc11 _ _ _ _ _ => "MIN.DF17.TC11"
  | .minDf17Tc12 _ _ _ _ _ => "MIN.DF17.TC12"
  | .minDf17Tc13 _ _ _ _ _ => "MIN.DF17.TC13"
  | .minDf17Tc14 _ _ _ _ _ => "MIN.DF17.TC14"
  | .minDf17Tc15 _ _ _ _ _ => "MIN.DF17.TC15"
  | .minDf17Tc16 _ _ _ _ _ => "MIN.DF17.TC16"
  | .minDf17Tc17 _ _ _ _ _ => "MIN.DF17.TC17"
  | .minDf17Tc18 _ _ _ _ _ => "MIN.DF17.TC18"
  | .minDf17Tc20 _ _ _ _ _ => "MIN.DF17.TC20"
  | .minDf17Tc21 _ _ _ _ _ => "MIN.DF17.TC21"
  | .minDf17Tc22 _ _ _ _ _ => "MIN.DF17.TC22"
  | .minDf17Tc23 _ _ _ _ _ => "MIN.DF17.TC23"
  | .minDf17Tc24 _ _ _ _ _ => "MIN.DF17.TC24"
  | .minDf17Tc25 _ _ _ _ _ => "MIN.DF17.TC25"
  | .minDf17Tc26 _ _ _ _ _ => "MIN.DF17.TC26"
  | .minDf17Tc27 _ _ _ _ _ => "MIN.DF17.TC27"
  | .minDf17Tc28 _ _ _ _ _ => "MIN.DF17.TC28"
  | .minDf17Tc29 _ _ _ _ _ => "MIN.DF17.TC29"
  | .minDf17Tc30 _ _ _ _ _ => "MIN.DF17.TC30"
  | .minDf17Tc31 _ _ _ _ _ => "MIN.DF17.TC31"
  | .minDf17Tc19St0 _ _ _ _ => "MIN.DF17.TC19.ST0"
  | .posvelSt1 _ _ _ _ => "POSVEL.ST1"
  | .posvelSt2 _ _ _ _ => "POSVEL.ST2"
  | .posSt3 _ _ _ _ => "POS.ST3"
  | .posSt4 _ _ _ _ => "POS.ST4"
  | .minDf17Tc19St5 _ _ _ _ => "MIN.DF17.TC19.ST5"
  | .minDf17Tc19St6 _ _ _ _ => "MIN.DF17.TC19.ST6"
  | .minDf17Tc19St7 _ _ _ _ => "MIN.DF17.TC19.ST7"

/-! ### The opcode table as the spec writes it -/

/-- A row of spec/opcode_table.json over the header word `HDR = MemRead(0, 5)` (30_encoding.md R63). -/
structure OpcodeRow where
  mnemonic : String
  matchBits : BitVec 40
  mask : BitVec 40
  cls : DispatchClass
  long : Bool
  deriving DecidableEq, Repr

/-- "A row of `opcode_table.json` matches when `HDR & mask = match`" (30_encoding.md R63). -/
def OpcodeRow.hits (r : OpcodeRow) (hdr : BitVec 40) : Bool := hdr &&& r.mask == r.matchBits

/-- Rows of the types 0 to 15 (30_encoding.md R64). -/
def opcodeTypesLow : List OpcodeRow :=
  [⟨"ALT13.DF0", 0x0000000000, 0xF800000000, .alt13, false⟩,
   ⟨"MIN.DF1", 0x0800000000, 0xF800000000, .min, false⟩,
   ⟨"MIN.DF2", 0x1000000000, 0xF800000000, .min, false⟩,
   ⟨"MIN.DF3", 0x1800000000, 0xF800000000, .min, false⟩,
   ⟨"ALT13.DF4", 0x2000000000, 0xF800000000, .alt13, false⟩,
   ⟨"MIN.DF5", 0x2800000000, 0xF800000000, .min, false⟩,
   ⟨"MIN.DF6", 0x3000000000, 0xF800000000, .min, false⟩,
   ⟨"MIN.DF7", 0x3800000000, 0xF800000000, .min, false⟩] ++
  [⟨"MIN.DF8", 0x4000000000, 0xF800000000, .min, false⟩,
   ⟨"MIN.DF9", 0x4800000000, 0xF800000000, .min, false⟩,
   ⟨"MIN.DF10", 0x5000000000, 0xF800000000, .min, false⟩,
   ⟨"MIN.DF11", 0x5800000000, 0xF800000000, .min, false⟩,
   ⟨"MIN.DF12", 0x6000000000, 0xF800000000, .min, false⟩,
   ⟨"MIN.DF13", 0x6800000000, 0xF800000000, .min, false⟩,
   ⟨"MIN.DF14", 0x7000000000, 0xF800000000, .min, false⟩,
   ⟨"MIN.DF15", 0x7800000000, 0xF800000000, .min, false⟩]

/-- Rows of the types 16 to 31 other than 17 (30_encoding.md R64). -/
def opcodeTypesHigh : List OpcodeRow :=
  [⟨"ALT13.DF16", 0x8000000000, 0xF800000000, .alt13, true⟩,
   ⟨"MIN.DF18", 0x9000000000, 0xF800000000, .min, false⟩,
   ⟨"MIN.DF19", 0x9800000000, 0xF800000000, .min, true⟩,
   ⟨"ALT13.DF20", 0xA000000000, 0xF800000000, .alt13, true⟩,
   ⟨"MIN.DF21", 0xA800000000, 0xF800000000, .min, true⟩,
   ⟨"MIN.DF22", 0xB000000000, 0xF800000000, .min, false⟩,
   ⟨"MIN.DF23", 0xB800000000, 0xF800000000, .min, false⟩,
   ⟨"MIN.DF24", 0xC000000000, 0xF800000000, .min, false⟩] ++
  [⟨"MIN.DF25", 0xC800000000, 0xF800000000, .min, false⟩,
   ⟨"MIN.DF26", 0xD000000000, 0xF800000000, .min, false⟩,
   ⟨"MIN.DF27", 0xD800000000, 0xF800000000, .min, false⟩,
   ⟨"MIN.DF28", 0xE000000000, 0xF800000000, .min, false⟩,
   ⟨"MIN.DF29", 0xE800000000, 0xF800000000, .min, false⟩,
   ⟨"MIN.DF30", 0xF000000000, 0xF800000000, .min, false⟩,
   ⟨"MIN.DF31", 0xF800000000, 0xF800000000, .min, false⟩]

/-- Rows of type 17, TC 0 to 15 (30_encoding.md R64). -/
def opcodeCodesLow : List OpcodeRow :=
  [⟨"MIN.DF17.TC0", 0x8800000000, 0xF8000000F8, .min, true⟩,
   ⟨"IDENT.TC1", 0x8800000008, 0xF8000000F8, .ident, true⟩,
   ⟨"IDENT.TC2", 0x8800000010, 0xF8000000F8, .ident, true⟩,
   ⟨"IDENT.TC3", 0x8800000018, 0xF8000000F8, .ident, true⟩,
   ⟨"IDENT.TC4", 0x8800000020, 0xF8000000F8, .ident, true⟩,
   ⟨"MIN.DF17.TC5", 0x8800000028, 0xF8000000F8, .min, true⟩,
   ⟨"MIN.DF17.TC6", 0x8800000030, 0xF8000000F8, .min, true⟩,
   ⟨"MIN.DF17.TC7", 0x8800000038, 0xF8000000F8, .min, true⟩] ++
  [⟨"MIN.DF17.TC8", 0x8800000040, 0xF8000000F8, .min, true⟩,
   ⟨"MIN.DF17.TC9", 0x8800000048, 0xF8000000F8, .min, true⟩,
   ⟨"MIN.DF17.TC10", 0x8800000050, 0xF8000000F8, .min, true⟩,
   ⟨"MIN.DF17.TC11", 0x8800000058, 0xF8000000F8, .min, true⟩,
   ⟨"MIN.DF17.TC12", 0x8800000060, 0xF8000000F8, .min, true⟩,
   ⟨"MIN.DF17.TC13", 0x8800000068, 0xF8000000F8, .min, true⟩,
   ⟨"MIN.DF17.TC14", 0x8800000070, 0xF8000000F8, .min, true⟩,
   ⟨"MIN.DF17.TC15", 0x8800000078, 0xF8000000F8, .min, true⟩]

/-- Rows of type 17, TC 16 to 31 other than 19 (30_encoding.md R64). -/
def opcodeCodesHigh : List OpcodeRow :=
  [⟨"MIN.DF17.TC16", 0x8800000080, 0xF8000000F8, .min, true⟩,
   ⟨"MIN.DF17.TC17", 0x8800000088, 0xF8000000F8, .min, true⟩,
   ⟨"MIN.DF17.TC18", 0x8800000090, 0xF8000000F8, .min, true⟩,
   ⟨"MIN.DF17.TC20", 0x88000000A0, 0xF8000000F8, .min, true⟩,
   ⟨"MIN.DF17.TC21", 0x88000000A8, 0xF8000000F8, .min, true⟩,
   ⟨"MIN.DF17.TC22", 0x88000000B0, 0xF8000000F8, .min, true⟩,
   ⟨"MIN.DF17.TC23", 0x88000000B8, 0xF8000000F8, .min, true⟩,
   ⟨"MIN.DF17.TC24", 0x88000000C0, 0xF8000000F8, .min, true⟩] ++
  [⟨"MIN.DF17.TC25", 0x88000000C8, 0xF8000000F8, .min, true⟩,
   ⟨"MIN.DF17.TC26", 0x88000000D0, 0xF8000000F8, .min, true⟩,
   ⟨"MIN.DF17.TC27", 0x88000000D8, 0xF8000000F8, .min, true⟩,
   ⟨"MIN.DF17.TC28", 0x88000000E0, 0xF8000000F8, .min, true⟩,
   ⟨"MIN.DF17.TC29", 0x88000000E8, 0xF8000000F8, .min, true⟩,
   ⟨"MIN.DF17.TC30", 0x88000000F0, 0xF8000000F8, .min, true⟩,
   ⟨"MIN.DF17.TC31", 0x88000000F8, 0xF8000000F8, .min, true⟩]

/-- Rows of type 17, TC 19 (30_encoding.md R64). -/
def opcodeSubtypes : List OpcodeRow :=
  [⟨"MIN.DF17.TC19.ST0", 0x8800000098, 0xF8000000FF, .min, true⟩,
   ⟨"POSVEL.ST1", 0x8800000099, 0xF8000000FF, .posvel, true⟩,
   ⟨"POSVEL.ST2", 0x880000009A, 0xF8000000FF, .posvel, true⟩,
   ⟨"POS.ST3", 0x880000009B, 0xF8000000FF, .pos, true⟩,
   ⟨"POS.ST4", 0x880000009C, 0xF8000000FF, .pos, true⟩,
   ⟨"MIN.DF17.TC19.ST5", 0x880000009D, 0xF8000000FF, .min, true⟩,
   ⟨"MIN.DF17.TC19.ST6", 0x880000009E, 0xF8000000FF, .min, true⟩,
   ⟨"MIN.DF17.TC19.ST7", 0x880000009F, 0xF8000000FF, .min, true⟩]

/-- The 70 rows of spec/opcode_table.json (30_encoding.md R64). -/
def opcodeTable : List OpcodeRow :=
  opcodeTypesLow ++ opcodeTypesHigh ++ opcodeCodesLow ++ opcodeCodesHigh ++ opcodeSubtypes

/-- The header word of a frame of at least five bytes, `HDR = MemRead(0, 5)` (30_encoding.md R63). -/
def headerWord (bytes : List Byte) : Option (BitVec 40) :=
  match bytes with
  | b0 :: b1 :: b2 :: b3 :: b4 :: _ => some (b0 ++ b1 ++ b2 ++ b3 ++ b4)
  | _ => none

/-! ### Table words for the host -/

/-- The `n` bytes of `w`, most significant first: the table numbers the header word with byte 0 in its most significant
bits (30_encoding.md R63; log entry 12). -/
def bytesOfWord (n w : Nat) : List Byte :=
  match n with
  | 0 => []
  | k + 1 => BitVec.ofNat 8 (w / 256 ^ k) :: bytesOfWord k w

/-- The frame of a table word: its bytes, then zero bytes up to the length of the type it begins with (log entry 12). -/
def tableFrame (nbits w : Nat) : List Byte :=
  let header := bytesOfWord ((nbits + 7) / 8) w
  header ++ List.replicate (lenByType (typeBits (header.headD 0)) / 8 - header.length) 0

/-- The instruction the decoder reads from a table word. -/
def decodeTableWord (nbits w : Nat) : Option Instr :=
  match decode (tableFrame nbits w) with
  | .ok i => some i
  | .error _ => none

end Sys2Proof
end

