-- ==== Sys2Proof/Machine/Operands.lean ====
section
/-! DEFINITION. The field extractors (41_extract.md R100 to R112): pure functions of the frame latch `FB`, none where a
byte they name does not exist. -/

namespace Sys2Proof.Machine

/-- `TYPE(FB) = FB[0][7:3]` (41_extract.md R101). -/
def frameType (fb : List Byte) : Option (BitVec 5) := (byteAt fb 0).map typeBits

/-- `ICAO(FB) = MemRead(1, 3)` (41_extract.md R102). -/
def icaoAddress (fb : List Byte) : Option (BitVec 24) := memRead fb 1 3

/-- `FLIGHT_STATUS(FB) = FB[0][2:0]` (41_extract.md R103). No record field takes it. -/
def flightStatus (fb : List Byte) : Option (BitVec 3) := (byteAt fb 0).map low3Bits

/-- `ME_SUBTYPE(FB) = (FB[4][7:3], FB[4][2:0])` (41_extract.md R104). -/
def meSubtype (fb : List Byte) : Option (BitVec 5 × BitVec 3) :=
  (byteAt fb 4).map fun b => (typeBits b, low3Bits b)

/-- `n·25 − 1000` as a signed 32-bit number (41_extract.md R105, R106; 00_scope.md R9). -/
def altitudeOfCode (n : BitVec 11) : BitVec 32 := BitVec.ofInt 32 ((n.toNat : Int) * 25 - 1000)

/-- `ALT13(FB)`: M = FB[3][6], Q = FB[3][4]; for M = 0 and Q = 1 the altitude of
`n = FB[2][4:0] ++ FB[3][7] ++ FB[3][5] ++ FB[3][3:0]`, else 0 (41_extract.md R105). -/
def alt13 (fb : List Byte) : Option (BitVec 32) :=
  match byteAt fb 2, byteAt fb 3 with
  | some b2, some b3 =>
    if b3.getLsbD 6 = false ∧ b3.getLsbD 4 = true then
      some (altitudeOfCode (b2.extractLsb' 0 5 ++ b3.extractLsb' 7 1 ++ b3.extractLsb' 5 1 ++ b3.extractLsb' 0 4))
    else some 0
  | _, _ => none

/-- `ALT12(FB)`: for Q = FB[5][0] set the altitude of `n = FB[5][7:1] ++ FB[6][7:4]`, else 0 (41_extract.md R106). -/
def alt12 (fb : List Byte) : Option (BitVec 32) :=
  match byteAt fb 5, byteAt fb 6 with
  | some b5, some b6 =>
    if b5.getLsbD 0 = true then some (altitudeOfCode (b5.extractLsb' 1 7 ++ b6.extractLsb' 4 4))
    else some 0
  | _, _ => none

/-- The first `n` of `CALLSIGN_CODES(FB)`: code `i` is `F(40 + 6i .. 45 + 6i)` (41_extract.md R107). -/
def callsignCodes (fb : List Byte) (n : Nat) : Option (List (BitVec 6)) :=
  match n with
  | 0 => some []
  | i + 1 =>
    match callsignCodes fb i, bitField fb (40 + 6 * i) 6 with
    | some cs, some c => some (cs ++ [c])
    | _, _ => none

/-- Each code's character of `CHARSET`, in order (41_extract.md R108). -/
def charsOfCodes (codes : List (BitVec 6)) : Option Text :=
  match codes with
  | [] => some []
  | c :: cs =>
    match readCharset c, charsOfCodes cs with
    | some x, some xs => some (x :: xs)
    | _, _ => none

/-- "while s is non-empty and its last character is space (0x20): remove the last character" (41_extract.md R108). -/
def trimTrailingSpaces (t : Text) : Text := (t.reverse.dropWhile (· == ' ')).reverse

/-- `CALLSIGN(FB)` (41_extract.md R108). -/
def callsign (fb : List Byte) : Option Text :=
  match callsignCodes fb 8 with
  | some codes => (charsOfCodes codes).map trimTrailingSpaces
  | none => none

/-- `RAW_POSITION(FB)`: F = FB[6][2], `raw_lat = FB[6][1:0] ++ FB[7] ++ FB[8][7:1]`,
`raw_lon = FB[8][0] ++ FB[9] ++ FB[10]` (41_extract.md R109). -/
def rawPosition (fb : List Byte) : Option RawPosition :=
  match byteAt fb 6, byteAt fb 7, byteAt fb 8, byteAt fb 9, byteAt fb 10 with
  | some b6, some b7, some b8, some b9, some b10 =>
    some ⟨b6.getLsbD 2, b6.extractLsb' 0 2 ++ b7 ++ b8.extractLsb' 1 7, b8.extractLsb' 0 1 ++ b9 ++ b10⟩
  | _, _, _, _, _ => none

/-- A direction bit and a magnitude as a signed number; there is no negative zero (41_extract.md R110). -/
def signedMagnitude (dir : Bool) (mag : BitVec 10) : Int := if dir then -(mag.toNat : Int) else mag.toNat

/-- `VELOCITY_COMPONENTS(FB)`: `(ew, ns)` from EW direction FB[5][2], EW magnitude `FB[5][1:0] ++ FB[6]`, NS direction
FB[7][7], NS magnitude `FB[7][6:0] ++ FB[8][7:5]` (41_extract.md R110). -/
def velocityComponents (fb : List Byte) : Option (Int × Int) :=
  match byteAt fb 5, byteAt fb 6, byteAt fb 7, byteAt fb 8 with
  | some b5, some b6, some b7, some b8 =>
    some (signedMagnitude (b5.getLsbD 2) (b5.extractLsb' 0 2 ++ b6),
      signedMagnitude (b7.getLsbD 7) (b7.extractLsb' 0 7 ++ b8.extractLsb' 5 3))
  | _, _, _, _ => none

/-- The ground speed of two components: `sqrt_binary64(to_binary64(ew·ew + ns·ns))` (41_extract.md R111). -/
def speedOfComponents (ew ns : Int) : Binary64 := binary64SqrtOfNat (ew * ew + ns * ns).toNat

/-- `SPEED(FB)` (41_extract.md R111). -/
def speed (fb : List Byte) : Option Binary64 :=
  (velocityComponents fb).map fun v => speedOfComponents v.1 v.2

/-- `HEADING(FB) = HEADING_DEG(ew, ns)` (41_extract.md R112). -/
def heading (fb : List Byte) : Option Binary64 :=
  (velocityComponents fb).map fun v => Config.headingDeg v.1 v.2

end Sys2Proof.Machine
end

