-- ==== Sys2Proof/Machine/Record.lean ====
section
/-! DEFINITION. Record assembly and the transaction that every dispatch class shares (42_dispatch.md R146 to R148). -/

namespace Sys2Proof.Machine

/-- `BASE_RECORD(FB)`: the ICAO address, crc_valid, and every presence bit 0 (42_dispatch.md R146). -/
def baseRecord (fb : List Byte) : Option Record :=
  (icaoAddress fb).map fun a =>
    { icao := a, crcValid := true, altitude := none, callsign := none, position := none, velocity := none,
      registry := none }

/-- `REGISTRY_MERGE(r)`: a match adds the four registry fields, a miss leaves them absent (42_dispatch.md R147). -/
def registryMerge (reg : Registry) (r : Record) : Record := { r with registry := registryLookup reg r.icao }

/-- The record of a valid frame: base record, registry merge, then the class fields (42_dispatch.md R148). -/
def assembleRecord (fields : List Byte → Record → Option Record) (reg : Registry) (fb : List Byte) : Option Record :=
  match baseRecord fb with
  | some r => fields fb (registryMerge reg r)
  | none => none

/-- `STATUS.SEEN_VALID <- 1; emit RECORD(r)`: the lookup, the outcome and the record leave on their ports and the
transaction ends (42_dispatch.md R147, R148; 20_memory.md R48; log entry 1). -/
def State.completeRecord (s : State) (r : Record) : State :=
  (s.markSeenValid.emit [.regLookup r.icao r.registry, .outcome .record, .recordOut r]).closeTransaction

/-- `CRC_VERDICT` of the latched frame, under the length of its type (42_dispatch.md R148). -/
def frameVerdict (fb : List Byte) : Option Verdict :=
  match frameType fb with
  | some t => crcVerdict fb (lenByType t)
  | none => none

/-- The transaction of the latched, length-correct frame, from the CRC verdict to the outcome, for a class that writes
the record by `fields` (42_dispatch.md R148). -/
def recordTransaction (fields : List Byte → Record → Option Record) (s : State) : Result :=
  match frameVerdict s.frame with
  | some .valid =>
    match assembleRecord fields s.registry s.frame with
    | some r => .next (s.completeRecord r)
    | none => .fault .overRead
  | some (.mismatch c e) => .next (s.raise (.checksumMismatch c e))
  | none => .fault .overRead

end Sys2Proof.Machine
end

