-- ==== Sys2Proof/Machine/Alt13.lean ====
section
/-! DEFINITION. Class ALT13: types 0, 4, 16 and 20 (42_dispatch.md R141). -/

namespace Sys2Proof.Machine

/-- The class fields of ALT13: the altitude of the 13-bit code, present even when it is 0 (42_dispatch.md R141). -/
def alt13Fields (fb : List Byte) (r : Record) : Option Record :=
  match alt13 fb with
  | some a => some { r with altitude := some a }
  | none => none

/-- `ALT13.DF0`: type 0. -/
def execAlt13Df0 (fs : BitVec 3) (icao crc : BitVec 24) (s : State) : Result :=
  recordTransaction alt13Fields (s.openTransaction (shortFrame 0#5 fs icao crc))

/-- `ALT13.DF4`: type 4. -/
def execAlt13Df4 (fs : BitVec 3) (icao crc : BitVec 24) (s : State) : Result :=
  recordTransaction alt13Fields (s.openTransaction (shortFrame 4#5 fs icao crc))

/-- `ALT13.DF16`: type 16. -/
def execAlt13Df16 (fs : BitVec 3) (icao : BitVec 24) (me : BitVec 56) (crc : BitVec 24) (s : State) : Result :=
  recordTransaction alt13Fields (s.openTransaction (longFrame 16#5 fs icao (me.extractLsb' 48 8) (me.extractLsb' 0 48) crc))

/-- `ALT13.DF20`: type 20. -/
def execAlt13Df20 (fs : BitVec 3) (icao : BitVec 24) (me : BitVec 56) (crc : BitVec 24) (s : State) : Result :=
  recordTransaction alt13Fields (s.openTransaction (longFrame 20#5 fs icao (me.extractLsb' 48 8) (me.extractLsb' 0 48) crc))

end Sys2Proof.Machine
end

