-- ==== Sys2Proof/Machine/Ident.lean ====
section
/-! DEFINITION. Class IDENT: type 17 with TC 1 to 4 (42_dispatch.md R142). -/

namespace Sys2Proof.Machine

/-- The class fields of IDENT: the callsign, present even when it is empty (42_dispatch.md R142). -/
def identFields (fb : List Byte) (r : Record) : Option Record :=
  match callsign fb with
  | some c => some { r with callsign := some c }
  | none => none

/-- `IDENT.TC1`: type 17, TC 1. -/
def execIdentTc1 (fs : BitVec 3) (icao : BitVec 24) (st : BitVec 3) (body : BitVec 48) (crc : BitVec 24) (s : State) : Result :=
  recordTransaction identFields (s.openTransaction (longFrame 17#5 fs icao (1#5 ++ st) body crc))

/-- `IDENT.TC2`: type 17, TC 2. -/
def execIdentTc2 (fs : BitVec 3) (icao : BitVec 24) (st : BitVec 3) (body : BitVec 48) (crc : BitVec 24) (s : State) : Result :=
  recordTransaction identFields (s.openTransaction (longFrame 17#5 fs icao (2#5 ++ st) body crc))

/-- `IDENT.TC3`: type 17, TC 3. -/
def execIdentTc3 (fs : BitVec 3) (icao : BitVec 24) (st : BitVec 3) (body : BitVec 48) (crc : BitVec 24) (s : State) : Result :=
  recordTransaction identFields (s.openTransaction (longFrame 17#5 fs icao (3#5 ++ st) body crc))

/-- `IDENT.TC4`: type 17, TC 4. -/
def execIdentTc4 (fs : BitVec 3) (icao : BitVec 24) (st : BitVec 3) (body : BitVec 48) (crc : BitVec 24) (s : State) : Result :=
  recordTransaction identFields (s.openTransaction (longFrame 17#5 fs icao (4#5 ++ st) body crc))

end Sys2Proof.Machine
end

