-- ==== Sys2Proof/Machine/Min.lean ====
section
/-! DEFINITION. Class MIN: every other key (42_dispatch.md R145). -/

namespace Sys2Proof.Machine

/-- The class fields of MIN: none (42_dispatch.md R145: "r keeps only icao, crc_valid and (rule R147) the registry
fields"). -/
def minFields (_fb : List Byte) (r : Record) : Option Record := some r

/-- `MIN.DF1`: type 1. -/
def execMinDf1 (fs : BitVec 3) (icao crc : BitVec 24) (s : State) : Result :=
  recordTransaction minFields (s.openTransaction (shortFrame 1#5 fs icao crc))

/-- `MIN.DF2`: type 2. -/
def execMinDf2 (fs : BitVec 3) (icao crc : BitVec 24) (s : State) : Result :=
  recordTransaction minFields (s.openTransaction (shortFrame 2#5 fs icao crc))

/-- `MIN.DF3`: type 3. -/
def execMinDf3 (fs : BitVec 3) (icao crc : BitVec 24) (s : State) : Result :=
  recordTransaction minFields (s.openTransaction (shortFrame 3#5 fs icao crc))

/-- `MIN.DF5`: type 5. -/
def execMinDf5 (fs : BitVec 3) (icao crc : BitVec 24) (s : State) : Result :=
  recordTransaction minFields (s.openTransaction (shortFrame 5#5 fs icao crc))

/-- `MIN.DF6`: type 6. -/
def execMinDf6 (fs : BitVec 3) (icao crc : BitVec 24) (s : State) : Result :=
  recordTransaction minFields (s.openTransaction (shortFrame 6#5 fs icao crc))

/-- `MIN.DF7`: type 7. -/
def execMinDf7 (fs : BitVec 3) (icao crc : BitVec 24) (s : State) : Result :=
  recordTransaction minFields (s.openTransaction (shortFrame 7#5 fs icao crc))

/-- `MIN.DF8`: type 8. -/
def execMinDf8 (fs : BitVec 3) (icao crc : BitVec 24) (s : State) : Result :=
  recordTransaction minFields (s.openTransaction (shortFrame 8#5 fs icao crc))

/-- `MIN.DF9`: type 9. -/
def execMinDf9 (fs : BitVec 3) (icao crc : BitVec 24) (s : State) : Result :=
  recordTransaction minFields (s.openTransaction (shortFrame 9#5 fs icao crc))

/-- `MIN.DF10`: type 10. -/
def execMinDf10 (fs : BitVec 3) (icao crc : BitVec 24) (s : State) : Result :=
  recordTransaction minFields (s.openTransaction (shortFrame 10#5 fs icao crc))

/-- `MIN.DF11`: type 11. -/
def execMinDf11 (fs : BitVec 3) (icao crc : BitVec 24) (s : State) : Result :=
  recordTransaction minFields (s.openTransaction (shortFrame 11#5 fs icao crc))

/-- `MIN.DF12`: type 12. -/
def execMinDf12 (fs : BitVec 3) (icao crc : BitVec 24) (s : State) : Result :=
  recordTransaction minFields (s.openTransaction (shortFrame 12#5 fs icao crc))

/-- `MIN.DF13`: type 13. -/
def execMinDf13 (fs : BitVec 3) (icao crc : BitVec 24) (s : State) : Result :=
  recordTransaction minFields (s.openTransaction (shortFrame 13#5 fs icao crc))

/-- `MIN.DF14`: type 14. -/
def execMinDf14 (fs : BitVec 3) (icao crc : BitVec 24) (s : State) : Result :=
  recordTransaction minFields (s.openTransaction (shortFrame 14#5 fs icao crc))

/-- `MIN.DF15`: type 15. -/
def execMinDf15 (fs : BitVec 3) (icao crc : BitVec 24) (s : State) : Result :=
  recordTransaction minFields (s.openTransaction (shortFrame 15#5 fs icao crc))

/-- `MIN.DF18`: type 18. -/
def execMinDf18 (fs : BitVec 3) (icao crc : BitVec 24) (s : State) : Result :=
  recordTransaction minFields (s.openTransaction (shortFrame 18#5 fs icao crc))

/-- `MIN.DF19`: type 19. -/
def execMinDf19 (fs : BitVec 3) (icao : BitVec 24) (me : BitVec 56) (crc : BitVec 24) (s : State) : Result :=
  recordTransaction minFields (s.openTransaction (longFrame 19#5 fs icao (me.extractLsb' 48 8) (me.extractLsb' 0 48) crc))

/-- `MIN.DF21`: type 21. -/
def execMinDf21 (fs : BitVec 3) (icao : BitVec 24) (me : BitVec 56) (crc : BitVec 24) (s : State) : Result :=
  recordTransaction minFields (s.openTransaction (longFrame 21#5 fs icao (me.extractLsb' 48 8) (me.extractLsb' 0 48) crc))

/-- `MIN.DF22`: type 22. -/
def execMinDf22 (fs : BitVec 3) (icao crc : BitVec 24) (s : State) : Result :=
  recordTransaction minFields (s.openTransaction (shortFrame 22#5 fs icao crc))

/-- `MIN.DF23`: type 23. -/
def execMinDf23 (fs : BitVec 3) (icao crc : BitVec 24) (s : State) : Result :=
  recordTransaction minFields (s.openTransaction (shortFrame 23#5 fs icao crc))

/-- `MIN.DF24`: type 24. -/
def execMinDf24 (fs : BitVec 3) (icao crc : BitVec 24) (s : State) : Result :=
  recordTransaction minFields (s.openTransaction (shortFrame 24#5 fs icao crc))

/-- `MIN.DF25`: type 25. -/
def execMinDf25 (fs : BitVec 3) (icao crc : BitVec 24) (s : State) : Result :=
  recordTransaction minFields (s.openTransaction (shortFrame 25#5 fs icao crc))

/-- `MIN.DF26`: type 26. -/
def execMinDf26 (fs : BitVec 3) (icao crc : BitVec 24) (s : State) : Result :=
  recordTransaction minFields (s.openTransaction (shortFrame 26#5 fs icao crc))

/-- `MIN.DF27`: type 27. -/
def execMinDf27 (fs : BitVec 3) (icao crc : BitVec 24) (s : State) : Result :=
  recordTransaction minFields (s.openTransaction (shortFrame 27#5 fs icao crc))

/-- `MIN.DF28`: type 28. -/
def execMinDf28 (fs : BitVec 3) (icao crc : BitVec 24) (s : State) : Result :=
  recordTransaction minFields (s.openTransaction (shortFrame 28#5 fs icao crc))

/-- `MIN.DF29`: type 29. -/
def execMinDf29 (fs : BitVec 3) (icao crc : BitVec 24) (s : State) : Result :=
  recordTransaction minFields (s.openTransaction (shortFrame 29#5 fs icao crc))

/-- `MIN.DF30`: type 30. -/
def execMinDf30 (fs : BitVec 3) (icao crc : BitVec 24) (s : State) : Result :=
  recordTransaction minFields (s.openTransaction (shortFrame 30#5 fs icao crc))

/-- `MIN.DF31`: type 31. -/
def execMinDf31 (fs : BitVec 3) (icao crc : BitVec 24) (s : State) : Result :=
  recordTransaction minFields (s.openTransaction (shortFrame 31#5 fs icao crc))

/-- `MIN.DF17.TC0`: type 17, TC 0. -/
def execMinDf17Tc0 (fs : BitVec 3) (icao : BitVec 24) (st : BitVec 3) (body : BitVec 48) (crc : BitVec 24) (s : State) : Result :=
  recordTransaction minFields (s.openTransaction (longFrame 17#5 fs icao (0#5 ++ st) body crc))

/-- `MIN.DF17.TC5`: type 17, TC 5. -/
def execMinDf17Tc5 (fs : BitVec 3) (icao : BitVec 24) (st : BitVec 3) (body : BitVec 48) (crc : BitVec 24) (s : State) : Result :=
  recordTransaction minFields (s.openTransaction (longFrame 17#5 fs icao (5#5 ++ st) body crc))

/-- `MIN.DF17.TC6`: type 17, TC 6. -/
def execMinDf17Tc6 (fs : BitVec 3) (icao : BitVec 24) (st : BitVec 3) (body : BitVec 48) (crc : BitVec 24) (s : State) : Result :=
  recordTransaction minFields (s.openTransaction (longFrame 17#5 fs icao (6#5 ++ st) body crc))

/-- `MIN.DF17.TC7`: type 17, TC 7. -/
def execMinDf17Tc7 (fs : BitVec 3) (icao : BitVec 24) (st : BitVec 3) (body : BitVec 48) (crc : BitVec 24) (s : State) : Result :=
  recordTransaction minFields (s.openTransaction (longFrame 17#5 fs icao (7#5 ++ st) body crc))

/-- `MIN.DF17.TC8`: type 17, TC 8. -/
def execMinDf17Tc8 (fs : BitVec 3) (icao : BitVec 24) (st : BitVec 3) (body : BitVec 48) (crc : BitVec 24) (s : State) : Result :=
  recordTransaction minFields (s.openTransaction (longFrame 17#5 fs icao (8#5 ++ st) body crc))

/-- `MIN.DF17.TC9`: type 17, TC 9. -/
def execMinDf17Tc9 (fs : BitVec 3) (icao : BitVec 24) (st : BitVec 3) (body : BitVec 48) (crc : BitVec 24) (s : State) : Result :=
  recordTransaction minFields (s.openTransaction (longFrame 17#5 fs icao (9#5 ++ st) body crc))

/-- `MIN.DF17.TC10`: type 17, TC 10. -/
def execMinDf17Tc10 (fs : BitVec 3) (icao : BitVec 24) (st : BitVec 3) (body : BitVec 48) (crc : BitVec 24) (s : State) : Result :=
  recordTransaction minFields (s.openTransaction (longFrame 17#5 fs icao (10#5 ++ st) body crc))

/-- `MIN.DF17.TC11`: type 17, TC 11. -/
def execMinDf17Tc11 (fs : BitVec 3) (icao : BitVec 24) (st : BitVec 3) (body : BitVec 48) (crc : BitVec 24) (s : State) : Result :=
  recordTransaction minFields (s.openTransaction (longFrame 17#5 fs icao (11#5 ++ st) body crc))

/-- `MIN.DF17.TC12`: type 17, TC 12. -/
def execMinDf17Tc12 (fs : BitVec 3) (icao : BitVec 24) (st : BitVec 3) (body : BitVec 48) (crc : BitVec 24) (s : State) : Result :=
  recordTransaction minFields (s.openTransaction (longFrame 17#5 fs icao (12#5 ++ st) body crc))

/-- `MIN.DF17.TC13`: type 17, TC 13. -/
def execMinDf17Tc13 (fs : BitVec 3) (icao : BitVec 24) (st : BitVec 3) (body : BitVec 48) (crc : BitVec 24) (s : State) : Result :=
  recordTransaction minFields (s.openTransaction (longFrame 17#5 fs icao (13#5 ++ st) body crc))

/-- `MIN.DF17.TC14`: type 17, TC 14. -/
def execMinDf17Tc14 (fs : BitVec 3) (icao : BitVec 24) (st : BitVec 3) (body : BitVec 48) (crc : BitVec 24) (s : State) : Result :=
  recordTransaction minFields (s.openTransaction (longFrame 17#5 fs icao (14#5 ++ st) body crc))

/-- `MIN.DF17.TC15`: type 17, TC 15. -/
def execMinDf17Tc15 (fs : BitVec 3) (icao : BitVec 24) (st : BitVec 3) (body : BitVec 48) (crc : BitVec 24) (s : State) : Result :=
  recordTransaction minFields (s.openTransaction (longFrame 17#5 fs icao (15#5 ++ st) body crc))

/-- `MIN.DF17.TC16`: type 17, TC 16. -/
def execMinDf17Tc16 (fs : BitVec 3) (icao : BitVec 24) (st : BitVec 3) (body : BitVec 48) (crc : BitVec 24) (s : State) : Result :=
  recordTransaction minFields (s.openTransaction (longFrame 17#5 fs icao (16#5 ++ st) body crc))

/-- `MIN.DF17.TC17`: type 17, TC 17. -/
def execMinDf17Tc17 (fs : BitVec 3) (icao : BitVec 24) (st : BitVec 3) (body : BitVec 48) (crc : BitVec 24) (s : State) : Result :=
  recordTransaction minFields (s.openTransaction (longFrame 17#5 fs icao (17#5 ++ st) body crc))

/-- `MIN.DF17.TC18`: type 17, TC 18. -/
def execMinDf17Tc18 (fs : BitVec 3) (icao : BitVec 24) (st : BitVec 3) (body : BitVec 48) (crc : BitVec 24) (s : State) : Result :=
  recordTransaction minFields (s.openTransaction (longFrame 17#5 fs icao (18#5 ++ st) body crc))

/-- `MIN.DF17.TC20`: type 17, TC 20. -/
def execMinDf17Tc20 (fs : BitVec 3) (icao : BitVec 24) (st : BitVec 3) (body : BitVec 48) (crc : BitVec 24) (s : State) : Result :=
  recordTransaction minFields (s.openTransaction (longFrame 17#5 fs icao (20#5 ++ st) body crc))

/-- `MIN.DF17.TC21`: type 17, TC 21. -/
def execMinDf17Tc21 (fs : BitVec 3) (icao : BitVec 24) (st : BitVec 3) (body : BitVec 48) (crc : BitVec 24) (s : State) : Result :=
  recordTransaction minFields (s.openTransaction (longFrame 17#5 fs icao (21#5 ++ st) body crc))

/-- `MIN.DF17.TC22`: type 17, TC 22. -/
def execMinDf17Tc22 (fs : BitVec 3) (icao : BitVec 24) (st : BitVec 3) (body : BitVec 48) (crc : BitVec 24) (s : State) : Result :=
  recordTransaction minFields (s.openTransaction (longFrame 17#5 fs icao (22#5 ++ st) body crc))

/-- `MIN.DF17.TC23`: type 17, TC 23. -/
def execMinDf17Tc23 (fs : BitVec 3) (icao : BitVec 24) (st : BitVec 3) (body : BitVec 48) (crc : BitVec 24) (s : State) : Result :=
  recordTransaction minFields (s.openTransaction (longFrame 17#5 fs icao (23#5 ++ st) body crc))

/-- `MIN.DF17.TC24`: type 17, TC 24. -/
def execMinDf17Tc24 (fs : BitVec 3) (icao : BitVec 24) (st : BitVec 3) (body : BitVec 48) (crc : BitVec 24) (s : State) : Result :=
  recordTransaction minFields (s.openTransaction (longFrame 17#5 fs icao (24#5 ++ st) body crc))

/-- `MIN.DF17.TC25`: type 17, TC 25. -/
def execMinDf17Tc25 (fs : BitVec 3) (icao : BitVec 24) (st : BitVec 3) (body : BitVec 48) (crc : BitVec 24) (s : State) : Result :=
  recordTransaction minFields (s.openTransaction (longFrame 17#5 fs icao (25#5 ++ st) body crc))

/-- `MIN.DF17.TC26`: type 17, TC 26. -/
def execMinDf17Tc26 (fs : BitVec 3) (icao : BitVec 24) (st : BitVec 3) (body : BitVec 48) (crc : BitVec 24) (s : State) : Result :=
  recordTransaction minFields (s.openTransaction (longFrame 17#5 fs icao (26#5 ++ st) body crc))

/-- `MIN.DF17.TC27`: type 17, TC 27. -/
def execMinDf17Tc27 (fs : BitVec 3) (icao : BitVec 24) (st : BitVec 3) (body : BitVec 48) (crc : BitVec 24) (s : State) : Result :=
  recordTransaction minFields (s.openTransaction (longFrame 17#5 fs icao (27#5 ++ st) body crc))

/-- `MIN.DF17.TC28`: type 17, TC 28. -/
def execMinDf17Tc28 (fs : BitVec 3) (icao : BitVec 24) (st : BitVec 3) (body : BitVec 48) (crc : BitVec 24) (s : State) : Result :=
  recordTransaction minFields (s.openTransaction (longFrame 17#5 fs icao (28#5 ++ st) body crc))

/-- `MIN.DF17.TC29`: type 17, TC 29. -/
def execMinDf17Tc29 (fs : BitVec 3) (icao : BitVec 24) (st : BitVec 3) (body : BitVec 48) (crc : BitVec 24) (s : State) : Result :=
  recordTransaction minFields (s.openTransaction (longFrame 17#5 fs icao (29#5 ++ st) body crc))

/-- `MIN.DF17.TC30`: type 17, TC 30. -/
def execMinDf17Tc30 (fs : BitVec 3) (icao : BitVec 24) (st : BitVec 3) (body : BitVec 48) (crc : BitVec 24) (s : State) : Result :=
  recordTransaction minFields (s.openTransaction (longFrame 17#5 fs icao (30#5 ++ st) body crc))

/-- `MIN.DF17.TC31`: type 17, TC 31. -/
def execMinDf17Tc31 (fs : BitVec 3) (icao : BitVec 24) (st : BitVec 3) (body : BitVec 48) (crc : BitVec 24) (s : State) : Result :=
  recordTransaction minFields (s.openTransaction (longFrame 17#5 fs icao (31#5 ++ st) body crc))

/-- `MIN.DF17.TC19.ST0`: type 17, TC 19, ST 0. -/
def execMinDf17Tc19St0 (fs : BitVec 3) (icao : BitVec 24) (body : BitVec 48) (crc : BitVec 24) (s : State) : Result :=
  recordTransaction minFields (s.openTransaction (longFrame 17#5 fs icao (19#5 ++ 0#3) body crc))

/-- `MIN.DF17.TC19.ST5`: type 17, TC 19, ST 5. -/
def execMinDf17Tc19St5 (fs : BitVec 3) (icao : BitVec 24) (body : BitVec 48) (crc : BitVec 24) (s : State) : Result :=
  recordTransaction minFields (s.openTransaction (longFrame 17#5 fs icao (19#5 ++ 5#3) body crc))

/-- `MIN.DF17.TC19.ST6`: type 17, TC 19, ST 6. -/
def execMinDf17Tc19St6 (fs : BitVec 3) (icao : BitVec 24) (body : BitVec 48) (crc : BitVec 24) (s : State) : Result :=
  recordTransaction minFields (s.openTransaction (longFrame 17#5 fs icao (19#5 ++ 6#3) body crc))

/-- `MIN.DF17.TC19.ST7`: type 17, TC 19, ST 7. -/
def execMinDf17Tc19St7 (fs : BitVec 3) (icao : BitVec 24) (body : BitVec 48) (crc : BitVec 24) (s : State) : Result :=
  recordTransaction minFields (s.openTransaction (longFrame 17#5 fs icao (19#5 ++ 7#3) body crc))

end Sys2Proof.Machine
end

