-- ==== Sys2Proof/Machine/Pos.lean ====
section
/-! DEFINITION. Class POS: type 17, TC 19, ST 3 or 4 (42_dispatch.md R144). -/

namespace Sys2Proof.Machine

/-- The class fields of POS: raw position and altitude of the 12-bit code; speed and heading stay absent
(42_dispatch.md R144). -/
def posFields (fb : List Byte) (r : Record) : Option Record :=
  match rawPosition fb, alt12 fb with
  | some p, some a => some { r with position := some p, altitude := some a }
  | _, _ => none

/-- `POS.ST3`: type 17, TC 19, ST 3. -/
def execPosSt3 (fs : BitVec 3) (icao : BitVec 24) (body : BitVec 48) (crc : BitVec 24) (s : State) : Result :=
  recordTransaction posFields (s.openTransaction (longFrame 17#5 fs icao (19#5 ++ 3#3) body crc))

/-- `POS.ST4`: type 17, TC 19, ST 4. -/
def execPosSt4 (fs : BitVec 3) (icao : BitVec 24) (body : BitVec 48) (crc : BitVec 24) (s : State) : Result :=
  recordTransaction posFields (s.openTransaction (longFrame 17#5 fs icao (19#5 ++ 4#3) body crc))

end Sys2Proof.Machine
end

