-- ==== Sys2Proof/Machine/PosVel.lean ====
section
/-! DEFINITION. Class POSVEL: type 17, TC 19, ST 1 or 2 (42_dispatch.md R143). -/

namespace Sys2Proof.Machine

/-- The class fields of POSVEL: raw position, altitude of the 12-bit code, speed and heading (42_dispatch.md R143). The
fields overlap in the frame; each is read as its own rule says. -/
def posvelFields (fb : List Byte) (r : Record) : Option Record :=
  match rawPosition fb, alt12 fb, speed fb, heading fb with
  | some p, some a, some v, some h =>
    some { r with position := some p, altitude := some a, velocity := some ⟨v, h⟩ }
  | _, _, _, _ => none

/-- `POSVEL.ST1`: type 17, TC 19, ST 1. -/
def execPosvelSt1 (fs : BitVec 3) (icao : BitVec 24) (body : BitVec 48) (crc : BitVec 24) (s : State) : Result :=
  recordTransaction posvelFields (s.openTransaction (longFrame 17#5 fs icao (19#5 ++ 1#3) body crc))

/-- `POSVEL.ST2`: type 17, TC 19, ST 2. -/
def execPosvelSt2 (fs : BitVec 3) (icao : BitVec 24) (body : BitVec 48) (crc : BitVec 24) (s : State) : Result :=
  recordTransaction posvelFields (s.openTransaction (longFrame 17#5 fs icao (19#5 ++ 2#3) body crc))

end Sys2Proof.Machine
end

