-- ==== Sys2Proof/Machine/Dispatch.lean ====
section
/-! DEFINITION. One arm per constructor of Instr: the transaction of a frame with that dispatch key
(42_dispatch.md R140 to R148). -/

namespace Sys2Proof.Machine

def exec (i : Instr) (s : State) : Host.Outcome State Fault Refusal :=
  match i with
  | .alt13Df0 fs icao crc => Sys2Proof.Machine.execAlt13Df0 fs icao crc s
  | .minDf1 fs icao crc => Sys2Proof.Machine.execMinDf1 fs icao crc s
  | .minDf2 fs icao crc => Sys2Proof.Machine.execMinDf2 fs icao crc s
  | .minDf3 fs icao crc => Sys2Proof.Machine.execMinDf3 fs icao crc s
  | .alt13Df4 fs icao crc => Sys2Proof.Machine.execAlt13Df4 fs icao crc s
  | .minDf5 fs icao crc => Sys2Proof.Machine.execMinDf5 fs icao crc s
  | .minDf6 fs icao crc => Sys2Proof.Machine.execMinDf6 fs icao crc s
  | .minDf7 fs icao crc => Sys2Proof.Machine.execMinDf7 fs icao crc s
  | .minDf8 fs icao crc => Sys2Proof.Machine.execMinDf8 fs icao crc s
  | .minDf9 fs icao crc => Sys2Proof.Machine.execMinDf9 fs icao crc s
  | .minDf10 fs icao crc => Sys2Proof.Machine.execMinDf10 fs icao crc s
  | .minDf11 fs icao crc => Sys2Proof.Machine.execMinDf11 fs icao crc s
  | .minDf12 fs icao crc => Sys2Proof.Machine.execMinDf12 fs icao crc s
  | .minDf13 fs icao crc => Sys2Proof.Machine.execMinDf13 fs icao crc s
  | .minDf14 fs icao crc => Sys2Proof.Machine.execMinDf14 fs icao crc s
  | .minDf15 fs icao crc => Sys2Proof.Machine.execMinDf15 fs icao crc s
  | .alt13Df16 fs icao me crc => Sys2Proof.Machine.execAlt13Df16 fs icao me crc s
  | .minDf18 fs icao crc => Sys2Proof.Machine.execMinDf18 fs icao crc s
  | .minDf19 fs icao me crc => Sys2Proof.Machine.execMinDf19 fs icao me crc s
  | .alt13Df20 fs icao me crc => Sys2Proof.Machine.execAlt13Df20 fs icao me crc s
  | .minDf21 fs icao me crc => Sys2Proof.Machine.execMinDf21 fs icao me crc s
  | .minDf22 fs icao crc => Sys2Proof.Machine.execMinDf22 fs icao crc s
  | .minDf23 fs icao crc => Sys2Proof.Machine.execMinDf23 fs icao crc s
  | .minDf24 fs icao crc => Sys2Proof.Machine.execMinDf24 fs icao crc s
  | .minDf25 fs icao crc => Sys2Proof.Machine.execMinDf25 fs icao crc s
  | .minDf26 fs icao crc => Sys2Proof.Machine.execMinDf26 fs icao crc s
  | .minDf27 fs icao crc => Sys2Proof.Machine.execMinDf27 fs icao crc s
  | .minDf28 fs icao crc => Sys2Proof.Machine.execMinDf28 fs icao crc s
  | .minDf29 fs icao crc => Sys2Proof.Machine.execMinDf29 fs icao crc s
  | .minDf30 fs icao crc => Sys2Proof.Machine.execMinDf30 fs icao crc s
  | .minDf31 fs icao crc => Sys2Proof.Machine.execMinDf31 fs icao crc s
  | .minDf17Tc0 fs icao st body crc => Sys2Proof.Machine.execMinDf17Tc0 fs icao st body crc s
  | .identTc1 fs icao st body crc => Sys2Proof.Machine.execIdentTc1 fs icao st body crc s
  | .identTc2 fs icao st body crc => Sys2Proof.Machine.execIdentTc2 fs icao st body crc s
  | .identTc3 fs icao st body crc => Sys2Proof.Machine.execIdentTc3 fs icao st body crc s
  | .identTc4 fs icao st body crc => Sys2Proof.Machine.execIdentTc4 fs icao st body crc s
  | .minDf17Tc5 fs icao st body crc => Sys2Proof.Machine.execMinDf17Tc5 fs icao st body crc s
  | .minDf17Tc6 fs icao st body crc => Sys2Proof.Machine.execMinDf17Tc6 fs icao st body crc s
  | .minDf17Tc7 fs icao st body crc => Sys2Proof.Machine.execMinDf17Tc7 fs icao st body crc s
  | .minDf17Tc8 fs icao st body crc => Sys2Proof.Machine.execMinDf17Tc8 fs icao st body crc s
  | .minDf17Tc9 fs icao st body crc => Sys2Proof.Machine.execMinDf17Tc9 fs icao st body crc s
  | .minDf17Tc10 fs icao st body crc => Sys2Proof.Machine.execMinDf17Tc10 fs icao st body crc s
  | .minDf17Tc11 fs icao st body crc => Sys2Proof.Machine.execMinDf17Tc11 fs icao st body crc s
  | .minDf17Tc12 fs icao st body crc => Sys2Proof.Machine.execMinDf17Tc12 fs icao st body crc s
  | .minDf17Tc13 fs icao st body crc => Sys2Proof.Machine.execMinDf17Tc13 fs icao st body crc s
  | .minDf17Tc14 fs icao st body crc => Sys2Proof.Machine.execMinDf17Tc14 fs icao st body crc s
  | .minDf17Tc15 fs icao st body crc => Sys2Proof.Machine.execMinDf17Tc15 fs icao st body crc s
  | .minDf17Tc16 fs icao st body crc => Sys2Proof.Machine.execMinDf17Tc16 fs icao st body crc s
  | .minDf17Tc17 fs icao st body crc => Sys2Proof.Machine.execMinDf17Tc17 fs icao st body crc s
  | .minDf17Tc18 fs icao st body crc => Sys2Proof.Machine.execMinDf17Tc18 fs icao st body crc s
  | .minDf17Tc20 fs icao st body crc => Sys2Proof.Machine.execMinDf17Tc20 fs icao st body crc s
  | .minDf17Tc21 fs icao st body crc => Sys2Proof.Machine.execMinDf17Tc21 fs icao st body crc s
  | .minDf17Tc22 fs icao st body crc => Sys2Proof.Machine.execMinDf17Tc22 fs icao st body crc s
  | .minDf17Tc23 fs icao st body crc => Sys2Proof.Machine.execMinDf17Tc23 fs icao st body crc s
  | .minDf17Tc24 fs icao st body crc => Sys2Proof.Machine.execMinDf17Tc24 fs icao st body crc s
  | .minDf17Tc25 fs icao st body crc => Sys2Proof.Machine.execMinDf17Tc25 fs icao st body crc s
  | .minDf17Tc26 fs icao st body crc => Sys2Proof.Machine.execMinDf17Tc26 fs icao st body crc s
  | .minDf17Tc27 fs icao st body crc => Sys2Proof.Machine.execMinDf17Tc27 fs icao st body crc s
  | .minDf17Tc28 fs icao st body crc => Sys2Proof.Machine.execMinDf17Tc28 fs icao st body crc s
  | .minDf17Tc29 fs icao st body crc => Sys2Proof.Machine.execMinDf17Tc29 fs icao st body crc s
  | .minDf17Tc30 fs icao st body crc => Sys2Proof.Machine.execMinDf17Tc30 fs icao st body crc s
  | .minDf17Tc31 fs icao st body crc => Sys2Proof.Machine.execMinDf17Tc31 fs icao st body crc s
  | .minDf17Tc19St0 fs icao body crc => Sys2Proof.Machine.execMinDf17Tc19St0 fs icao body crc s
  | .posvelSt1 fs icao body crc => Sys2Proof.Machine.execPosvelSt1 fs icao body crc s
  | .posvelSt2 fs icao body crc => Sys2Proof.Machine.execPosvelSt2 fs icao body crc s
  | .posSt3 fs icao body crc => Sys2Proof.Machine.execPosSt3 fs icao body crc s
  | .posSt4 fs icao body crc => Sys2Proof.Machine.execPosSt4 fs icao body crc s
  | .minDf17Tc19St5 fs icao body crc => Sys2Proof.Machine.execMinDf17Tc19St5 fs icao body crc s
  | .minDf17Tc19St6 fs icao body crc => Sys2Proof.Machine.execMinDf17Tc19St6 fs icao body crc s
  | .minDf17Tc19St7 fs icao body crc => Sys2Proof.Machine.execMinDf17Tc19St7 fs icao body crc s

end Sys2Proof.Machine
end

