-- ==== Sys2Proof/Machine/FrontEnd.lean ====
section
/-! DEFINITION. The text front end (30_encoding.md R68, 42_dispatch.md R149). -/

namespace Sys2Proof.Machine

/-- Space, TAB and CR (30_encoding.md R68: `ws`). -/
def isBlank (c : Char) : Bool := c == ' ' || c == '\t' || c == '\r'

/-- A text without its leading and trailing blanks (42_dispatch.md R149). -/
def trimBlanks (t : Text) : Text := ((t.dropWhile isBlank).reverse.dropWhile isBlank).reverse

/-- A text without one given last character, if it ends with it (42_dispatch.md R149). -/
def withoutLast (c : Char) (t : Text) : Text := if t.getLast? = some c then t.dropLast else t

/-- A text without one leading `*`, if it starts with it (42_dispatch.md R149). -/
def withoutStar (t : Text) : Text :=
  match t with
  | '*' :: rest => rest
  | _ => t

/-- The value of a hex digit, either case (30_encoding.md R68). -/
def hexDigit (c : Char) : Option (BitVec 4) :=
  let n := c.toNat
  if 48 ≤ n ∧ n ≤ 57 then some (BitVec.ofNat 4 (n - 48))
  else if 65 ≤ n ∧ n ≤ 70 then some (BitVec.ofNat 4 (n - 55))
  else if 97 ≤ n ∧ n ≤ 102 then some (BitVec.ofNat 4 (n - 87))
  else none

/-- The bytes of a text of hex pairs, high nibble first; none for an odd count or a character that is no hex digit
(42_dispatch.md R149). -/
def hexBytes (t : Text) : Option (List Byte) :=
  match t with
  | [] => some []
  | [_] => none
  | h :: l :: rest =>
    match hexDigit h, hexDigit l, hexBytes rest with
    | some a, some b, some bs => some ((a ++ b) :: bs)
    | _, _, _ => none

/-- What the front end makes of a line (42_dispatch.md R149). -/
inductive LineResult where
  /-- An empty line: no transaction, no outcome. -/
  | skip
  /-- MALFORMED(HEX): the block is not invoked. -/
  | badHex
  /-- A `FRAME_IN` transaction. -/
  | frame (bytes : List Byte)
  deriving DecidableEq, Repr

/-- `FRONT_END(line)` (42_dispatch.md R149; log entry 16). -/
def frontEnd (text : Text) : LineResult :=
  let t := trimBlanks (withoutLast '\n' text)
  if t = [] then .skip
  else
    let u := withoutLast ';' (withoutStar t)
    if u = [] then .badHex
    else
      match hexBytes u with
      | some bytes => .frame bytes
      | none => .badHex

end Sys2Proof.Machine
end

