-- ==== Sys2Proof/Machine/Transactions.lean ====
section
/-! DEFINITION. The host events and what the block does with each (10_state.md R28): a frame (42_dispatch.md R148), a text
line (R149), a transport event (60_exceptions.md R177), a status read, a reset and the boot-time registry load. After
them the pipeline of R148 as the spec writes it, with the dispatch class of R140 read from the latch, beside the
decoder-driven one that the machine runs. -/

namespace Sys2Proof.Machine

/-! ### The machine's transactions -/

/-- A frame, once boot has completed: the latch is loaded, the frame is decoded, and its instruction runs; a byte count
the decoder refuses is MALFORMED (42_dispatch.md R148, 60_exceptions.md R171). -/
def runFrame (bytes : List Byte) (s : State) : Result :=
  let t := s.openTransaction bytes
  match decode t.frame with
  | .ok i => exec i t
  | .error .empty => .next (t.raise (.malformed .empty))
  | .error (.length nb expected) => .next (t.raise (.malformed (.length nb expected)))

/-- `FRAME_IN` (42_dispatch.md R148), accepted only after boot (70_reset_and_hazards.md R192). -/
def acceptFrame (bytes : List Byte) (s : State) : Result :=
  if s.boot = .running then runFrame bytes s else .fault .notStarted

/-- A text line (42_dispatch.md R149). Lines arrive only after boot (70_reset_and_hazards.md R192). -/
def acceptLine (text : Text) (s : State) : Result :=
  if s.boot = .running then
    match frontEnd text with
    | .skip => .next s
    | .badHex => .next (s.raise (.malformed .hex))
    | .frame bytes => runFrame bytes s
  else .fault .notStarted

/-- `TRANSPORT_IN`: one report, no state change (60_exceptions.md R177). -/
def acceptTransport (s : State) : Result := .next (s.emit [.faultOut s.actionable])

/-- `STATUS_READ`: the register's value, no side effect (10_state.md R23, R28). -/
def acceptStatusRead (s : State) : Result := .next (s.emit [.statusRead s.statusRegister])

/-- Boot step 1 (70_reset_and_hazards.md R192; 60_exceptions.md R178; log entry 3). -/
def acceptRegistry (loaded : Option Registry) (s : State) : Result :=
  if s.boot = .awaitingRegistry then
    match loaded with
    | some reg => .next { s with registry := reg, boot := .awaitingReset }
    | none => .fault .registryLoadFailure
  else .fault .registryReload

/-- What the block does with a host event. -/
def takeEvent (e : HostEvent) (s : State) : Result :=
  match e with
  | .frameIn bytes => acceptFrame bytes s
  | .line text => acceptLine text s
  | .transportIn => acceptTransport s
  | .statusRead => acceptStatusRead s
  | .reset => .next s.takeReset
  | .loadRegistry loaded => acceptRegistry loaded s

/-! ### The pipeline as the spec writes it -/

/-- `DISPATCH_CLASS(FB)` (42_dispatch.md R140). -/
def dispatchClass (fb : List Byte) : Option DispatchClass :=
  match frameType fb with
  | none => none
  | some df =>
    if df = 0#5 ∨ df = 4#5 ∨ df = 16#5 ∨ df = 20#5 then some .alt13
    else if df = 17#5 then
      match meSubtype fb with
      | none => none
      | some (tc, st) =>
        if 1 ≤ tc.toNat ∧ tc.toNat ≤ 4 then some .ident
        else if tc = 19#5 ∧ (st = 1#3 ∨ st = 2#3) then some .posvel
        else if tc = 19#5 ∧ (st = 3#3 ∨ st = 4#3) then some .pos
        else some .min
    else some .min

/-- The rule that writes a class's record fields: R141 to R145 (42_dispatch.md R148, the `case`). -/
def classFields (c : DispatchClass) : List Byte → Record → Option Record :=
  match c with
  | .alt13 => alt13Fields
  | .ident => identFields
  | .posvel => posvelFields
  | .pos => posFields
  | .min => minFields

/-- `FRAME(NB, bytes)` step by step as 42_dispatch.md R148 writes it. -/
def pipeline (bytes : List Byte) (s : State) : Result :=
  let t := s.openTransaction bytes
  let fb := t.frame
  if fb.length = 0 then .next (t.raise (.malformed .empty))
  else
    match frameType fb with
    | none => .fault .overRead
    | some ty =>
      if 8 * fb.length ≠ lenByType ty then .next (t.raise (.malformed (.length fb.length (lenByType ty / 8))))
      else
        match crcVerdict fb (lenByType ty) with
        | none => .fault .overRead
        | some (.mismatch c e) => .next (t.raise (.checksumMismatch c e))
        | some .valid =>
          match baseRecord fb, dispatchClass fb with
          | some r, some c =>
            match classFields c fb (registryMerge t.registry r) with
            | some r' => .next (t.completeRecord r')
            | none => .fault .overRead
          | _, _ => .fault .overRead

end Sys2Proof.Machine
end

