-- ==== Sys2Proof/Machine/Step.lean ====
section
/-! DEFINITION. One step: the block takes the first host event; with none pending it waits (60_exceptions.md R176,
70_reset_and_hazards.md R193; log entry 2). -/

namespace Sys2Proof.Machine

/-- One step of an instance. -/
def step (s : State) : Host.Outcome State Fault Refusal :=
  match s.hostInput with
  | [] => .next s
  | e :: rest => takeEvent e { s with hostInput := rest }

/-- The state in which the very next event is the frame of a table word, boot having completed (log entries 2, 12). -/
def State.withFetchWord (s : State) (nbits w : Nat) : State :=
  { s with boot := .running, hostInput := .frameIn (tableFrame nbits w) :: s.hostInput }

end Sys2Proof.Machine
end

