-- ==== Sys2Proof/Machine/Serialize.lean ====
section
/-! DEFINITION. The output object of a record (42_dispatch.md R150, R151). It belongs to the surrounding software; the
order of the keys is not specified (log entry 15). -/

namespace Sys2Proof.Machine

/-- The keys of an output object (42_dispatch.md R150). -/
inductive Key where
  | icao
  | crcValid
  | altitude
  | callsign
  | coordpairEven
  | rawLat
  | rawLon
  | speed
  | heading
  | regid
  | mdl
  | actype
  | operator
  deriving DecidableEq, Repr

/-- A key as it is written (42_dispatch.md R150). -/
def Key.name (k : Key) : String :=
  match k with
  | .icao => "icao"
  | .crcValid => "crc_valid"
  | .altitude => "altitude"
  | .callsign => "callsign"
  | .coordpairEven => "coordpair_even"
  | .rawLat => "raw_lat"
  | .rawLon => "raw_lon"
  | .speed => "speed"
  | .heading => "heading"
  | .regid => "regid"
  | .mdl => "mdl"
  | .actype => "type"
  | .operator => "operator"

/-- The value of a key (42_dispatch.md R150). Number formatting is not specified. -/
inductive Value where
  | text (t : Text)
  | bool (b : Bool)
  | integer (i : Int)
  | number (x : Binary64)
  deriving DecidableEq, Repr

/-- A lowercase hex digit (42_dispatch.md R150). -/
def hexChar (d : BitVec 4) : Char :=
  if d.toNat < 10 then Char.ofNat (48 + d.toNat) else Char.ofNat (87 + d.toNat)

/-- "exactly 6 lowercase hexadecimal digits, zero-padded, most significant first" (42_dispatch.md R150). -/
def icaoText (a : BitVec 24) : Text :=
  [hexChar (a.extractLsb' 20 4), hexChar (a.extractLsb' 16 4), hexChar (a.extractLsb' 12 4),
   hexChar (a.extractLsb' 8 4), hexChar (a.extractLsb' 4 4), hexChar (a.extractLsb' 0 4)]

/-- The keys of the raw position; `coordpair_even` is true exactly when `pos_f = EVEN_POLARITY` (42_dispatch.md R150). -/
def positionEntries (p : RawPosition) : List (Key × Value) :=
  [(.coordpairEven, .bool (p.posF == Config.evenPolarity)), (.rawLat, .integer p.rawLat.toNat),
   (.rawLon, .integer p.rawLon.toNat)]

/-- The keys of the velocity (42_dispatch.md R150). -/
def velocityEntries (v : Velocity) : List (Key × Value) :=
  [(.speed, .number v.speed), (.heading, .number v.heading)]

/-- The keys of the registry fields (42_dispatch.md R150). -/
def registryEntries (a : AircraftRecord) : List (Key × Value) :=
  [(.regid, .text a.regid), (.mdl, .text a.mdl), (.actype, .text a.actype), (.operator, .text a.operator)]

/-- The entries of an optional field: none when it is absent (42_dispatch.md R151: "omitted from the output, never
zero-filled and never the empty string"). -/
def entriesOf {α : Type} (f : α → List (Key × Value)) (x : Option α) : List (Key × Value) :=
  match x with
  | some a => f a
  | none => []

/-- `SERIALIZE(r)` (42_dispatch.md R150, R151). -/
def serialize (r : Record) : List (Key × Value) :=
  [(.icao, .text (icaoText r.icao)), (.crcValid, .bool r.crcValid)] ++
  entriesOf (fun a => [(Key.altitude, Value.integer a.toInt)]) r.altitude ++
  entriesOf (fun c => [(Key.callsign, Value.text c)]) r.callsign ++
  entriesOf positionEntries r.position ++
  entriesOf velocityEntries r.velocity ++
  entriesOf registryEntries r.registry

end Sys2Proof.Machine
end

