-- ==== Sys2Proof/Machine/System.lean ====
section
/-! DEFINITION. Several instances side by side (60_exceptions.md R180; 20_memory.md R49, R50). Each has its own status,
latch and host; they share one registry, which is stored once and is loaded once for all of them. What happens next is
plain data, so that every interleaving of their steps, and of their outputs at the common boundary, is some schedule
(log entry 13). -/

namespace Sys2Proof.Machine

/-- What an instance has for itself: all of State but the registry (60_exceptions.md R180: "each has its own `STATUS` and
frame latch"). -/
structure Instance where
  seenValid : Bool
  latch : Option (List Byte)
  boot : BootPhase
  hostInput : List HostEvent
  portLog : List PortEvent
  deriving DecidableEq, Repr

/-- The own part of an instance's state. -/
def State.own (s : State) : Instance where
  seenValid := s.seenValid
  latch := s.latch
  boot := s.boot
  hostInput := s.hostInput
  portLog := s.portLog

/-- The state of an instance that sees this registry (60_exceptions.md R180: "they share only the read-only
`REGISTRY`"). -/
def Instance.withRegistry (c : Instance) (reg : Registry) : State where
  seenValid := c.seenValid
  latch := c.latch
  boot := c.boot
  registry := reg
  hostInput := c.hostInput
  portLog := c.portLog

/-- The host of this instance presents a registry load to it alone. -/
def Instance.presentsLoad (c : Instance) : Bool :=
  match c.hostInput with
  | .loadRegistry _ :: _ => true
  | _ => false

/-- What can happen next among several instances. -/
inductive SystemMove where
  /-- The registry is loaded for all instances, or loading fails (70_reset_and_hazards.md R192). -/
  | load (loaded : Option Registry)
  /-- Instance `k` takes a step of its own. -/
  | advance (k : Nat)
  /-- The next output of instance `k` reaches the common boundary. -/
  | deliver (k : Nat)
  deriving DecidableEq, Repr

/-- The one registry, what each instance has for itself, the order in which things happen, and what has reached the common
output boundary, each output with the instance it came from. -/
structure System where
  registry : Registry
  cores : List Instance
  schedule : List SystemMove
  boundary : List (Nat × PortEvent)
  deriving DecidableEq, Repr

/-- Why a step of the system stops. -/
inductive SystemFault where
  /-- The schedule names an instance that does not exist. Raised by System.advance and System.deliver. Safe: no such
  instance can move. -/
  | noSuchCore (k : Nat)
  /-- Instance `k` stopped with its own fault. Raised by System.advance. Safe as that fault is. -/
  | coreFault (k : Nat) (f : Fault)
  /-- A registry load presented to instance `k` alone: the registry is shared (60_exceptions.md R180) and is loaded by the
  move `load`. Raised by System.advance. Safe: the spec gives an instance no registry of its own. -/
  | ownRegistryLoad (k : Nat)
  /-- The registry could not be loaded (60_exceptions.md R178: "fatal, must abort startup"). Raised by
  System.loadRegistry. Safe. -/
  | registryLoadFailure
  /-- A load after an instance has gone on to its reset (70_reset_and_hazards.md R192: "is loaded once before any
  ingestion loop starts"). Raised by System.loadRegistry. Safe: the spec gives no such event. -/
  | registryReload
  deriving DecidableEq, Repr

/-- The outputs of instance `k` at the common boundary, in order (20_memory.md R49). -/
def System.outputsOf (sys : System) (k : Nat) : List PortEvent :=
  (sys.boundary.filter fun p => p.1 == k).map Prod.snd

/-- What the output ports carried between two states of an instance. -/
def newOutputs (before after : State) : List PortEvent := after.portLog.drop before.portLog.length

/-- Boot step 1 for all instances: the one registry is fixed before any of them goes on (70_reset_and_hazards.md R192,
10_state.md R29, 60_exceptions.md R178). -/
def System.loadRegistry (sys : System) (loaded : Option Registry) : Host.Outcome System SystemFault Refusal :=
  if sys.cores.all fun c => c.boot == .awaitingRegistry then
    match loaded with
    | some reg => .next { sys with registry := reg, cores := sys.cores.map fun c => { c with boot := .awaitingReset } }
    | none => .fault .registryLoadFailure
  else .fault .registryReload

/-- Instance `k` takes a step of its own, seeing the shared registry; the others do not move (60_exceptions.md R180). -/
def System.advance (sys : System) (k : Nat) : Host.Outcome System SystemFault Refusal :=
  match sys.cores[k]? with
  | none => .fault (.noSuchCore k)
  | some c =>
    if c.presentsLoad then .fault (.ownRegistryLoad k)
    else
      match step (c.withRegistry sys.registry) with
      | .next t => .next { sys with cores := sys.cores.set k t.own }
      | .fault f => .fault (.coreFault k f)
      | .refused r => .refused r

/-- The oldest output of instance `k` that has not reached the boundary reaches it; nothing happens when there is none
(20_memory.md R48, R49). -/
def System.deliver (sys : System) (k : Nat) : Host.Outcome System SystemFault Refusal :=
  match sys.cores[k]? with
  | none => .fault (.noSuchCore k)
  | some c =>
    match c.portLog[(sys.outputsOf k).length]? with
    | some e => .next { sys with boundary := sys.boundary ++ [(k, e)] }
    | none => .next sys

/-- One step of the system: the first move of the schedule; with none left nothing happens. -/
def systemStep (sys : System) : Host.Outcome System SystemFault Refusal :=
  match sys.schedule with
  | [] => .next sys
  | .load loaded :: rest => { sys with schedule := rest }.loadRegistry loaded
  | .advance k :: rest => { sys with schedule := rest }.advance k
  | .deliver k :: rest => { sys with schedule := rest }.deliver k

/-- `n` steps of the system. -/
def systemSteps (n : Nat) (sys : System) : Host.Outcome System SystemFault Refusal :=
  match n with
  | 0 => .next sys
  | m + 1 =>
    match systemStep sys with
    | .next t => systemSteps m t
    | .fault f => .fault f
    | .refused r => .refused r

/-- `N_INSTANCES` instances after reset, at the launch premise (60_exceptions.md R180, 70_reset_and_hazards.md R192). -/
def System.reset : System where
  registry := State.reset.registry
  cores := List.replicate Config.nInstances State.reset.own
  schedule := []
  boundary := []

/-- `N_INSTANCES` instances at power-up, boot still to come. -/
def System.powerUp : System :=
  { System.reset with cores := List.replicate Config.nInstances State.powerUp.own }

end Sys2Proof.Machine
end

