-- ==== Sys2Proof/WellFormed.lean ====
section
/-! DEFINITION. Well-formed frames. The spec's well-formed input is the length-correct frame (41_extract.md R100: "pure,
total functions over well-formed (length-correct) input"): at least one byte, and as many bytes as the type field of
byte 0 asks for (40_crc.md R80, 42_dispatch.md R148). The operands of an Instr have their exact widths by type, so its
one check is that of the frame it stands for. -/

namespace Sys2Proof

/-- The frame has a byte 0 (42_dispatch.md R148: `NB = 0` is MALFORMED). -/
def frameNonempty (fb : List Byte) : Bool := !fb.isEmpty

/-- The byte count is the one of the type (42_dispatch.md R148: `8·NB = L`). -/
def frameLengthCorrect (fb : List Byte) : Bool := 8 * fb.length == lenByType (typeBits (fb.headD 0))

/-- A well-formed frame: both checks. -/
def frameWellFormed (fb : List Byte) : Bool := frameNonempty fb && frameLengthCorrect fb

/-- An instruction is well-formed when the frame it stands for is. -/
def Instr.wellFormed (i : Instr) : Bool := frameWellFormed (encode i)

end Sys2Proof
end

