-- ==== Sys2Proof/Safety.lean ====
section
/-! DEFINITION. What counts as a safe run, and the terms in which claims about the machine are stated. The values below are
written from the rules of spec/ over an instruction's operands, not over the machine's own extractors, so that a claim
compares two readings of the spec. -/

namespace Sys2Proof.Machine

/-! ### Lawful outputs -/

/-- A binary64 pattern whose value lies in `lo ≤ v`, `v < hi`. -/
def BinaryIn (x : Binary64) (lo hi : ℚ) : Prop := ∃ v, binary64Value x = some v ∧ lo ≤ v ∧ v < hi

/-- What every record the block emits obeys: crc_valid is 1 (42_dispatch.md R146), altitudes are `25·n − 1000` with
`n ≤ 2047` (41_extract.md R105, R106), callsigns have at most 8 characters of CHARSET and no trailing space (R108), the
heading lies in [0, 360) (R112), the speed is below 1447 (R111), and the presence bits are those of a dispatch class
(42_dispatch.md R141 to R145). -/
def Record.Lawful (r : Record) : Prop :=
  r.crcValid = true ∧
  (∀ a, r.altitude = some a → ∃ n : ℕ, n ≤ 2047 ∧ a.toInt = 25 * n - 1000) ∧
  (∀ c, r.callsign = some c → c.length ≤ 8 ∧ (∀ x ∈ c, x ∈ charset) ∧ c.getLast? ≠ some ' ') ∧
  (∀ v, r.velocity = some v → BinaryIn v.speed 0 1447 ∧ BinaryIn v.heading 0 360) ∧
  (r.presentVelocity = true → r.presentPosition = true) ∧
  (r.presentPosition = true → r.presentAltitude = true) ∧
  (r.presentCallsign = true → r.presentAltitude = false)

/-- What every outcome obeys: a LENGTH reason names a count that is not the expected one, which is 7 or 14
(60_exceptions.md R171), and a mismatch names two different checksums (R172). -/
def TxOutcome.Lawful (o : TxOutcome) : Prop :=
  match o with
  | .record => True
  | .malformed .hex => True
  | .malformed .empty => True
  | .malformed (.length nb expected) => nb ≠ expected ∧ (expected = 7 ∨ expected = 14)
  | .checksumMismatch computed embedded => computed ≠ embedded

/-- What every port output obeys; the reserved bits of STATUS read 0 (10_state.md R23). -/
def PortEvent.Lawful (e : PortEvent) : Prop :=
  match e with
  | .outcome o => o.Lawful
  | .recordOut r => r.Lawful
  | .regLookup _ _ => True
  | .faultOut _ => True
  | .statusRead v => v.extractLsb' 1 7 = 0#7

/-- The invariant of an instance between steps: no transaction is in progress (20_memory.md R48, 10_state.md R20),
SEEN_VALID is 1 only once boot has completed and a RECORD outcome has left (10_state.md R24), and every output so far is
lawful. -/
def State.Inv (s : State) : Prop :=
  s.latch = none ∧
  (s.seenValid = true → s.boot = .running ∧ .outcome .record ∈ s.portLog) ∧
  ∀ e ∈ s.portLog, e.Lawful

/-! ### Next states, as the spec gives them -/

/-- After a RECORD outcome with record `r` (42_dispatch.md R147, R148; 10_state.md R24; log entries 1, 7). -/
def State.afterRecord (s : State) (r : Record) : State :=
  { s with
    seenValid := true
    latch := none
    portLog := s.portLog ++ [.regLookup r.icao r.registry, .outcome .record, .recordOut r] }

/-- After an outcome without a record: nothing but the outcome port has changed (60_exceptions.md R175). -/
def State.afterDrop (s : State) (o : TxOutcome) : State :=
  { s with latch := none, portLog := s.portLog ++ [.outcome o] }

/-- After an event that only drives one port and changes no state (60_exceptions.md R177; 10_state.md R28). -/
def State.afterPort (s : State) (e : PortEvent) : State := { s with portLog := s.portLog ++ [e] }

/-! ### Field values over the operands (frame bit `j` of a long frame is body bit `87 - j`, or ICAO bit `31 - j`) -/

/-- The altitude of an 11-bit code: `n·25 − 1000` (41_extract.md R105, R106). -/
def feetOfCode (n : ℕ) : BitVec 32 := BitVec.ofInt 32 (25 * n - 1000)

/-- ALT13 over the ICAO operand, which holds frame bits 8 to 31: M is frame bit 25, Q is frame bit 27, and `n` is frame
bits 19..31 without them (41_extract.md R105, 30_encoding.md R62). -/
def alt13OfIcao (icao : BitVec 24) : BitVec 32 :=
  if icao.getLsbD 6 = false ∧ icao.getLsbD 4 = true then
    feetOfCode (icao.toNat / 256 % 32 * 64 + icao.toNat / 128 % 2 * 32 + icao.toNat / 32 % 2 * 16 + icao.toNat % 16)
  else 0

/-- ALT12 over the body operand, which holds frame bits 40 to 87: Q is frame bit 47, `n` is frame bits 40..46 and 48..51
(41_extract.md R106, 30_encoding.md R62). -/
def alt12OfBody (body : BitVec 48) : BitVec 32 :=
  if body.getLsbD 40 = true then feetOfCode (body.toNat / 2 ^ 41 * 16 + body.toNat / 2 ^ 36 % 16) else 0

/-- CALLSIGN over the body operand: `code[i] = (W >> (42 − 6i)) & 63`, each code's character of CHARSET, trailing spaces
removed (41_extract.md R107, R108). -/
def callsignOfBody (body : BitVec 48) : Text :=
  ((List.range 8).map fun i => charset.getD (body.toNat / 2 ^ (42 - 6 * i) % 64) '?').rdropWhile (· == ' ')

/-- RAW_POSITION over the body operand: F is frame bit 53, latitude 54..70, longitude 71..87 (41_extract.md R109). -/
def positionOfBody (body : BitVec 48) : RawPosition :=
  ⟨body.getLsbD 34, body.extractLsb' 17 17, body.extractLsb' 0 17⟩

/-- The east-west component over the body operand: direction frame bit 45, magnitude 46..55 (41_extract.md R110). -/
def ewOfBody (body : BitVec 48) : Int :=
  if body.getLsbD 42 then -((body.extractLsb' 32 10).toNat : Int) else (body.extractLsb' 32 10).toNat

/-- The north-south component over the body operand: direction frame bit 56, magnitude 57..66 (41_extract.md R110). -/
def nsOfBody (body : BitVec 48) : Int :=
  if body.getLsbD 31 then -((body.extractLsb' 21 10).toNat : Int) else (body.extractLsb' 21 10).toNat

/-- SPEED and HEADING over the body operand (41_extract.md R111, R112). -/
def velocityOfBody (body : BitVec 48) : Velocity :=
  ⟨speedOfComponents (ewOfBody body) (nsOfBody body), Config.headingDeg (ewOfBody body) (nsOfBody body)⟩

/-- The record with no class field: icao, crc_valid and the registry's answer (42_dispatch.md R145 to R147). -/
def minimalRecord (reg : Registry) (icao : BitVec 24) : Record :=
  { icao := icao, crcValid := true, altitude := none, callsign := none, position := none, velocity := none,
    registry := registryLookup reg icao }

/-- The frame of `i` is CRC-valid: the checksum computed over it is the one it carries (40_crc.md R84). -/
def CrcValid (i : Instr) : Prop := computeCrc (encode i) (lenByType i.df) = some i.crc

/-! ### Views of the outputs -/

/-- Is it an `OUTCOME`? -/
def PortEvent.isOutcome (e : PortEvent) : Bool :=
  match e with
  | .outcome _ => true
  | _ => false

/-- Is it a `REG_LOOKUP`? -/
def PortEvent.isLookup (e : PortEvent) : Bool :=
  match e with
  | .regLookup _ _ => true
  | _ => false

/-- Is it a `RECORD_OUT`? -/
def PortEvent.isRecord (e : PortEvent) : Bool :=
  match e with
  | .recordOut _ => true
  | _ => false

/-- A transaction from `s` to `t` completes with record `r`: SEEN_VALID is set, and the ports carry one lookup of the
record's ICAO with the answer it holds, one RECORD outcome and the record (42_dispatch.md R147, R148; 10_state.md R24).
It says nothing of the order between different ports, which is the model's (log entry 1). -/
def CompletesWith (s t : State) (r : Record) : Prop :=
  t.seenValid = true ∧
  (newOutputs s t).filter PortEvent.isLookup = [.regLookup r.icao r.registry] ∧
  (newOutputs s t).filter PortEvent.isOutcome = [.outcome .record] ∧
  (newOutputs s t).filter PortEvent.isRecord = [.recordOut r]

/-- A transaction from `s` to `t` drops its frame with outcome `o`: the outcome port carries it, nothing else leaves, and
SEEN_VALID, boot and the registry are as before (60_exceptions.md R175). -/
def DropsWith (s t : State) (o : TxOutcome) : Prop :=
  t.seenValid = s.seenValid ∧ t.boot = s.boot ∧ t.registry = s.registry ∧ t.portLog = s.portLog ++ [.outcome o]

/-- The instance a move is about; a load is about all of them. -/
def SystemMove.core (m : SystemMove) : Option ℕ :=
  match m with
  | .load _ => none
  | .advance k => some k
  | .deliver k => some k

/-! ### What stands first in line, and runs -/

/-- The first event in line is the frame `bytes`: on `FRAME_IN` itself, or as a line that the front end turns into it
(42_dispatch.md R149). -/
def PresentsFrame (s : State) (bytes : List Byte) (rest : List HostEvent) : Prop :=
  s.hostInput = .frameIn bytes :: rest ∨ ∃ text, s.hostInput = .line text :: rest ∧ frontEnd text = .frame bytes

/-- `t` is reached from `s` by steps none of which takes a RESET, the host presenting further events at any time. -/
inductive RunsWithoutReset (s : State) : State → Prop where
  | refl : RunsWithoutReset s s
  | next {t u : State} (run : RunsWithoutReset s t) (noReset : ∀ rest, t.hostInput ≠ .reset :: rest)
      (h : step t = .next u) : RunsWithoutReset s u
  | present {t : State} (run : RunsWithoutReset s t) (events : List HostEvent) :
      RunsWithoutReset s { t with hostInput := t.hostInput ++ events }

/-! ### The output object -/

/-- The output object with its keys as they are written (42_dispatch.md R150). -/
def serializedPairs (r : Record) : List (String × Value) := (serialize r).map fun e => (e.1.name, e.2)

/-! ### The line grammar (30_encoding.md R68) -/

/-- `ws`: space, TAB or CR. -/
def IsWs (c : Char) : Prop := c = ' ' ∨ c = '\t' ∨ c = '\r'

/-- `c` is a hex digit of value `v`, in either case. -/
def IsHexDigit (c : Char) (v : BitVec 4) : Prop :=
  ['0', '1', '2', '3', '4', '5', '6', '7', '8', '9', 'A', 'B', 'C', 'D', 'E', 'F'][v.toNat]? = some c ∨
  ['0', '1', '2', '3', '4', '5', '6', '7', '8', '9', 'a', 'b', 'c', 'd', 'e', 'f'][v.toNat]? = some c

/-- `t` is the hex pairs of `bytes`, the high nibble first. -/
def HexPairs (t : Text) (bytes : List Byte) : Prop :=
  t.length = 2 * bytes.length ∧
  ∀ (k : ℕ) (b : Byte), bytes[k]? = some b →
    ∃ c d x y, t[2 * k]? = some c ∧ t[2 * k + 1]? = some d ∧ IsHexDigit c x ∧ IsHexDigit d y ∧ b = x ++ y

/-- `line ::= ws* [ "*" ] hexpair+ [ ";" ] ws*`, without the end of line (30_encoding.md R68). -/
def LineGrammar (t : Text) (bytes : List Byte) : Prop :=
  ∃ before star body semi after,
    t = before ++ star ++ body ++ semi ++ after ∧
    (∀ c ∈ before, IsWs c) ∧ (∀ c ∈ after, IsWs c) ∧
    (star = [] ∨ star = ['*']) ∧ (semi = [] ∨ semi = [';']) ∧
    HexPairs body bytes ∧ bytes ≠ []

end Sys2Proof.Machine
end

