-- ==== Sys2Proof/Certificates/Slice0/Obligations.lean ====
section
/-! DEFINITION. The statements about the model, for the provers: each a proposition over every state and every operand,
with the rule of spec/ it formalises. -/

open Sys2Proof Sys2Proof.Machine

/-! ### Encoding -/

/-- Decoding the frame of an instruction gives it back, every operand at every value (30_encoding.md R61 to R65). -/
def Obligations.DecodeOfEncodeIsTheInstruction : Prop :=
  ∀ i : Instr, decode (encode i) = .ok i

/-- The other direction: bytes that decode are exactly the frame of what they decode to. -/
def Obligations.EncodeOfDecodeIsTheFrame : Prop :=
  ∀ (bytes : List Byte) (i : Instr), decode bytes = .ok i → encode i = bytes

/-- No key is refused: bytes decode exactly when their count is the one of their type (30_encoding.md R65). -/
def Obligations.DecodeRefusesOnlyWrongByteCounts : Prop :=
  ∀ bytes : List Byte, (∃ i, decode bytes = .ok i) ↔ frameWellFormed bytes = true

/-- Words written out from 30_encoding.md R61 to R64 decode to their rows: type 4, type 5, type 18 (56 bits), type 21,
type 17 with TC 4, and TC 19 with ST 1, 3 and 7. -/
def Obligations.SampleFramesDecodeToTheirRows : Prop :=
  decode [0x20, 0x00, 0x01, 0x94, 0x89, 0xB5, 0xF1] = .ok (.alt13Df4 0 0x000194 0x89B5F1) ∧
  decode [0x28, 0xAB, 0xCD, 0xEF, 0xCE, 0xF5, 0x6F] = .ok (.minDf5 0 0xABCDEF 0xCEF56F) ∧
  decode [0x90, 0x48, 0x40, 0xD6, 0x22, 0xDF, 0x51] = .ok (.minDf18 0 0x4840D6 0x22DF51) ∧
  decode [0xA8, 0x48, 0x40, 0xD6, 0, 0, 0, 0, 0, 0, 0, 0x9A, 0xD8, 0x68] = .ok (.minDf21 0 0x4840D6 0 0x9AD868) ∧
  decode [0x8D, 0x48, 0x40, 0xD6, 0x20, 0x2C, 0xC3, 0x71, 0xC3, 0x2C, 0xE0, 0x57, 0x60, 0x98] =
    .ok (.identTc4 5 0x4840D6 0 0x2CC371C32CE0 0x576098) ∧
  decode [0x8D, 0x48, 0x50, 0x20, 0x99, 0x44, 0x09, 0x94, 0x08, 0x38, 0x17, 0x5B, 0x28, 0x4F] =
    .ok (.posvelSt1 5 0x485020 0x440994083817 0x5B284F) ∧
  decode [0x8D, 0x48, 0x50, 0x20, 0x9B, 0xC3, 0x80, 0x94, 0x08, 0x38, 0x17, 0x27, 0xCF, 0x05] =
    .ok (.posSt3 5 0x485020 0xC38094083817 0x27CF05) ∧
  decode [0x8D, 0x48, 0x50, 0x20, 0x9F, 0, 0, 0, 0, 0, 0, 0x3B, 0xC4, 0xC4] =
    .ok (.minDf17Tc19St7 5 0x485020 0 0x3BC4C4)

/-- The rows of the opcode table "match disjointly and cover every key" (30_encoding.md R64): there are 70, and exactly
one matches any header word. -/
def Obligations.OpcodeRowsMatchEveryKeyOnce : Prop :=
  opcodeTable.length = 70 ∧
  ∀ hdr : BitVec 40, ∃ r ∈ opcodeTable, r.hits hdr = true ∧ ∀ q ∈ opcodeTable, q.hits hdr = true → q = r

/-- The instruction a frame decodes to is the row of the opcode table that its header word matches, with that row's
mnemonic, class and format (30_encoding.md R63, R64). -/
def Obligations.DecodedInstructionIsTheMatchingRow : Prop :=
  ∀ (bytes : List Byte) (i : Instr), decode bytes = .ok i →
    ∃ hdr, headerWord bytes = some hdr ∧
      ∃ r ∈ opcodeTable, r.hits hdr = true ∧ r.mnemonic = i.mnemonic ∧ r.cls = i.cls ∧
        bytes.length = (if r.long then 14 else 7)

/-- The class a decoded frame runs in is the one R64 gives its key: ALT13 for DF 0, 4, 16, 20; for DF 17 IDENT for TC 1
to 4, POSVEL for TC 19 with ST 1, 2, POS for TC 19 with ST 3, 4; MIN for every other key. -/
def Obligations.DispatchClassFollowsTheKey : Prop :=
  ∀ (b0 b1 b2 b3 b4 : Byte) (rest : List Byte) (i : Instr),
    decode (b0 :: b1 :: b2 :: b3 :: b4 :: rest) = .ok i →
    (i.cls = .alt13 ↔ b0.toNat / 8 ∈ [0, 4, 16, 20]) ∧
    (i.cls = .ident ↔ b0.toNat / 8 = 17 ∧ 1 ≤ b4.toNat / 8 ∧ b4.toNat / 8 ≤ 4) ∧
    (i.cls = .posvel ↔ b0.toNat / 8 = 17 ∧ b4.toNat / 8 = 19 ∧ (b4.toNat % 8 = 1 ∨ b4.toNat % 8 = 2)) ∧
    (i.cls = .pos ↔ b0.toNat / 8 = 17 ∧ b4.toNat / 8 = 19 ∧ (b4.toNat % 8 = 3 ∨ b4.toNat % 8 = 4)) ∧
    dispatchClass (b0 :: b1 :: b2 :: b3 :: b4 :: rest) = some i.cls

/-- TYPE, FLIGHT_STATUS, ICAO and EMBEDDED_CRC of an instruction's frame are its row's type and its operands
(41_extract.md R101, R102, R103; 40_crc.md R83). -/
def Obligations.FieldsOfAFrameAreTheOperands : Prop :=
  ∀ i : Instr,
    frameType (encode i) = some i.df ∧ flightStatus (encode i) = some i.fs ∧
    icaoAddress (encode i) = some i.icao ∧ embeddedCrc (encode i) (lenByType i.df) = some i.crc

/-- The byte forms of the extractors are the frame bit ranges of R61 and R62, each on every frame that has its bytes: TYPE
bits 0..4 and FS 5..7 from 1 byte on; the embedded checksum in the last 24 bits from 3; ICAO 8..31 and AC13 19..31, with M
at 25 and Q at 27 taken out of `n`, from 4; TC and ST 32..36 and 37..39 from 5; ALT12 40..46 and 48..51, with Q at 47, from
7; EW and NS direction 45 and 56 and magnitude 46..55 and 57..66 from 9; F, latitude and longitude 53, 54..70 and 71..87,
and the eight callsign codes in 40..87, as `MemRead(5, 6)` shifted right by `42 − 6i`, from 11. -/
def Obligations.ByteFormsAreTheFrameBitRanges : Prop :=
  ∀ fb : List Byte,
    (1 ≤ fb.length → frameType fb = bitField fb 0 5 ∧ flightStatus fb = bitField fb 5 3) ∧
    (3 ≤ fb.length → embeddedCrc fb (8 * fb.length) = bitField fb (8 * fb.length - 24) 24) ∧
    (4 ≤ fb.length → icaoAddress fb = bitField fb 8 24 ∧
      ∃ code m q, bitField fb 19 13 = some code ∧ bitAt fb 25 = some m ∧ bitAt fb 27 = some q ∧
        alt13 fb = some (if m = false ∧ q = true then
          feetOfCode (code.toNat / 128 * 32 + code.toNat / 32 % 2 * 16 + code.toNat % 16) else 0)) ∧
    (5 ≤ fb.length → ∃ tc st, meSubtype fb = some (tc, st) ∧ bitField fb 32 5 = some tc ∧ bitField fb 37 3 = some st) ∧
    (7 ≤ fb.length → ∃ high q low, bitField fb 40 7 = some high ∧ bitAt fb 47 = some q ∧ bitField fb 48 4 = some low ∧
      alt12 fb = some (if q = true then feetOfCode (high.toNat * 16 + low.toNat) else 0)) ∧
    (9 ≤ fb.length → ∃ ewDir ewMag nsDir nsMag, bitAt fb 45 = some ewDir ∧ bitField fb 46 10 = some ewMag ∧
      bitAt fb 56 = some nsDir ∧ bitField fb 57 10 = some nsMag ∧
      velocityComponents fb = some
        (if ewDir then -(ewMag.toNat : ℤ) else ewMag.toNat, if nsDir then -(nsMag.toNat : ℤ) else nsMag.toNat)) ∧
    (11 ≤ fb.length →
      (∃ p, rawPosition fb = some p ∧ bitAt fb 53 = some p.posF ∧ bitField fb 54 17 = some p.rawLat ∧
        bitField fb 71 17 = some p.rawLon) ∧
      ∃ w codes, memRead fb 5 6 = some w ∧ callsignCodes fb 8 = some codes ∧ codes.length = 8 ∧
        ∀ i, i < 8 → codes[i]? = some (BitVec.ofNat 6 (w.toNat / 2 ^ (42 - 6 * i))))

/-! ### Constant tables -/

/-- `CHARSET`: 64 entries; entry 32 is space, 1 to 26 are `A` to `Z`, 48 to 57 are `0` to `9`, and every other one is `?`
(10_state.md R22). -/
def Obligations.CharsetEntriesAreTheSourcesString : Prop :=
  charset.length = 64 ∧ charset[32]? = some ' ' ∧
  (∀ k, k < 26 → charset[1 + k]? = some (Char.ofNat (65 + k))) ∧
  (∀ k, k < 10 → charset[48 + k]? = some (Char.ofNat (48 + k))) ∧
  (∀ k, k < 64 → k ≠ 32 → (k = 0 ∨ 26 < k) → (k < 48 ∨ 57 < k) → charset[k]? = some '?')

/-- `CRC_TABLE` is the spec's default (10_state.md R21; log entry 6, PRESUMED): 112 entries; entry 87 is `x^24 mod G`, each earlier entry is `x`
times the next one modulo `G = 0x1FFF409`, and entries 88 to 111 are 0. -/
def Obligations.CrcTableEntriesAreTheRemainders : Prop :=
  crcTable.length = 112 ∧ crcTable[87]? = some 0xFFF409 ∧
  (∀ k, k < 87 → ∃ e : BitVec 24, crcTable[k + 1]? = some e ∧
    crcTable[k]? = some (if e.getLsbD 23 = true then (e <<< 1) ^^^ 0xFFF409 else e <<< 1)) ∧
  (∀ k, 88 ≤ k → k < 112 → crcTable[k]? = some 0)

/-! ### Length rule and checksum -/

/-- `LEN_BY_TYPE`, for all types (40_crc.md R80). -/
def Obligations.LengthIs112ForFiveTypesOnly : Prop :=
  ∀ t : BitVec 5,
    (t.toNat ∈ [16, 17, 19, 20, 21] → lenByType t = 112) ∧ (t.toNat ∉ [16, 17, 19, 20, 21] → lenByType t = 56)

/-- `COMPUTE_CRC` is the exclusive or of the table entries of the set bits, entry `j + off` for bit `j`, with `off` 0 for
112 bits and 56 for 56 bits (40_crc.md R81, R82). -/
def Obligations.ComputeCrcXorsTheEntriesOfTheSetBits : Prop :=
  ∀ (fb : List Byte) (len : ℕ), len = 56 ∨ len = 112 → 8 * fb.length = len →
    computeCrc fb len =
      some (((List.range len).filter fun j => bitAt fb j = some true).foldl
        (fun acc j => acc ^^^ crcTable.getD (j + (if len = 112 then 0 else 56)) 0) 0)

/-- Linearity: the checksum of the byte-wise exclusive or of two frames of one length is the exclusive or of their
checksums (40_crc.md R85.1). -/
def Obligations.ComputeCrcIsLinear : Prop :=
  ∀ (a b : List Byte) (len : ℕ) (x y : BitVec 24), len = 56 ∨ len = 112 → 8 * a.length = len → 8 * b.length = len →
    computeCrc a len = some x → computeCrc b len = some y →
    computeCrc (List.zipWith (· ^^^ ·) a b) len = some (x ^^^ y)

/-- Under the default table, changing only the last 24 bits of a frame leaves its checksum unchanged (40_crc.md R85.2). It
rests on entries 88 to 111 being 0, that is on the model's table being that default (log entry 6, PRESUMED). -/
def Obligations.ChecksumBitsDoNotFeedBack : Prop :=
  ∀ (a b : List Byte) (len : ℕ), len = 56 ∨ len = 112 → 8 * a.length = len → 8 * b.length = len →
    a.take (a.length - 3) = b.take (b.length - 3) → computeCrc a len = computeCrc b len

/-- Under the default table, writing the computed checksum into a frame's last three bytes makes it valid, and no other
checksum does (40_crc.md R85.3). It rests on entries 88 to 111 being 0, that is on the model's table being that default
(log entry 6, PRESUMED). -/
def Obligations.ExactlyOneChecksumMakesAFrameValid : Prop :=
  ∀ i : Instr, ∃ c, computeCrc (encode i) (lenByType i.df) = some c ∧
    ∀ d, frameVerdict (encode (i.withCrc d)) = some .valid ↔ d = c

/-- Under the default table the checksum is the remainder of `D(x)·x^24` modulo the Mode S generator, `D` being the
frame's first `len − 24` bits (40_crc.md R86, 10_state.md R21). That is an inference the spec marks as its own, and it rests
on the model's table being that default (log entry 6, PRESUMED). -/
def Obligations.ComputeCrcIsThePolynomialRemainder : Prop :=
  ∀ (fb : List Byte) (len : ℕ) (c : BitVec 24), len = 56 ∨ len = 112 → 8 * fb.length = len →
    computeCrc fb len = some c →
    (∑ k ∈ Finset.range 24, if c.getLsbD k then (Polynomial.X ^ k : Polynomial (ZMod 2)) else 0) =
      Polynomial.modByMonic
        ((∑ j ∈ Finset.range (len - 24), if bitAt fb j = some true then Polynomial.X ^ (len - 25 - j) else 0) *
          Polynomial.X ^ 24)
        ((∑ k ∈ Finset.Icc 12 24, Polynomial.X ^ k) + Polynomial.X ^ 10 + Polynomial.X ^ 3 + 1)

/-! ### Extractor values -/

/-- Altitudes are `25·n − 1000` with `n` from 0 to 2047, so in −1000 .. 50175 and never wrapped (00_scope.md R9,
41_extract.md R105, R106). -/
def Obligations.AltitudesStayInTheirRange : Prop :=
  ∀ (fb : List Byte) (a : BitVec 32), alt13 fb = some a ∨ alt12 fb = some a →
    ∃ n : ℕ, n ≤ 2047 ∧ a.toInt = 25 * n - 1000

/-- A callsign has at most 8 characters, all of CHARSET, no trailing space, and trimming it again changes nothing
(00_scope.md R11, 41_extract.md R108). -/
def Obligations.CallsignsAreTrimmedCharsetText : Prop :=
  ∀ (fb : List Byte) (t : Text), callsign fb = some t →
    t.length ≤ 8 ∧ (∀ c ∈ t, c ∈ charset) ∧ t.getLast? ≠ some ' ' ∧ trimTrailingSpaces t = t

/-- The speed of a frame is the binary64 value nearest to the Euclidean norm of its velocity components, which is R111's
correctly rounded root; it is +0.0 for (0, 0) (41_extract.md R111). It is strictly nearer than every other value, so that
no tie has to be broken (log entry 10, DEDUCED). -/
def Obligations.SpeedIsTheNearestBinary64OfTheNorm : Prop :=
  ∀ (fb : List Byte) (ew ns : ℤ), velocityComponents fb = some (ew, ns) →
    ∃ x v, speed fb = some x ∧ binary64Value x = some v ∧ (ew = 0 → ns = 0 → x = 0) ∧
      ∀ (y : Binary64) (w : ℚ), binary64Value y = some w → w ≠ v →
        |(v : ℝ) - Real.sqrt ((ew : ℝ) ^ 2 + (ns : ℝ) ^ 2)| < |(w : ℝ) - Real.sqrt ((ew : ℝ) ^ 2 + (ns : ℝ) ^ 2)|

/-- The heading of a frame obeys laws H1 to H4 of 41_extract.md R112: a binary64 value in [0, 360), the same for all
frames with the same components, within 1e−9 of the normalised angle, and exactly 0, 90, 180 or 270 on the axes. Nothing
more is known of it (Config.headingDeg has no body). -/
def Obligations.HeadingsObeyTheirLaws : Prop :=
  ∀ (fb : List Byte) (ew ns : ℤ), velocityComponents fb = some (ew, ns) →
    ∃ h v, heading fb = some h ∧ binary64Value h = some v ∧ 0 ≤ v ∧ v < 360 ∧
      (∀ fb', velocityComponents fb' = some (ew, ns) → heading fb' = some h) ∧
      nearHeading ew ns v ∧
      (ew = 0 → 0 ≤ ns → v = 0) ∧ (0 < ew → ns = 0 → v = 90) ∧
      (ew = 0 → ns < 0 → v = 180) ∧ (ew < 0 → ns = 0 → v = 270)

/-! ### What each class of frame does -/

/-- Class ALT13 (42_dispatch.md R141): the four rows, on a CRC-valid frame, complete with the record with the altitude of AC13. -/
def Obligations.Alt13FramesEmitTheirAltitude : Prop :=
  ∀ (fs : BitVec 3) (icao : BitVec 24) (me : BitVec 56) (crc : BitVec 24) (s : State),
    (CrcValid (.alt13Df0 fs icao crc) →
      ∃ t, exec (.alt13Df0 fs icao crc) s = .next t ∧
        CompletesWith s t { minimalRecord s.registry icao with altitude := some (alt13OfIcao icao) }) ∧
    (CrcValid (.alt13Df4 fs icao crc) →
      ∃ t, exec (.alt13Df4 fs icao crc) s = .next t ∧
        CompletesWith s t { minimalRecord s.registry icao with altitude := some (alt13OfIcao icao) }) ∧
    (CrcValid (.alt13Df16 fs icao me crc) →
      ∃ t, exec (.alt13Df16 fs icao me crc) s = .next t ∧
        CompletesWith s t { minimalRecord s.registry icao with altitude := some (alt13OfIcao icao) }) ∧
    (CrcValid (.alt13Df20 fs icao me crc) →
      ∃ t, exec (.alt13Df20 fs icao me crc) s = .next t ∧
        CompletesWith s t { minimalRecord s.registry icao with altitude := some (alt13OfIcao icao) })

/-- Class IDENT (42_dispatch.md R142): the four rows, on a CRC-valid frame, complete with the record with the callsign; ST is not
examined. -/
def Obligations.IdentFramesEmitTheirCallsign : Prop :=
  ∀ (fs : BitVec 3) (icao : BitVec 24) (st : BitVec 3) (body : BitVec 48) (crc : BitVec 24) (s : State),
    (CrcValid (.identTc1 fs icao st body crc) →
      ∃ t, exec (.identTc1 fs icao st body crc) s = .next t ∧
        CompletesWith s t { minimalRecord s.registry icao with callsign := some (callsignOfBody body) }) ∧
    (CrcValid (.identTc2 fs icao st body crc) →
      ∃ t, exec (.identTc2 fs icao st body crc) s = .next t ∧
        CompletesWith s t { minimalRecord s.registry icao with callsign := some (callsignOfBody body) }) ∧
    (CrcValid (.identTc3 fs icao st body crc) →
      ∃ t, exec (.identTc3 fs icao st body crc) s = .next t ∧
        CompletesWith s t { minimalRecord s.registry icao with callsign := some (callsignOfBody body) }) ∧
    (CrcValid (.identTc4 fs icao st body crc) →
      ∃ t, exec (.identTc4 fs icao st body crc) s = .next t ∧
        CompletesWith s t { minimalRecord s.registry icao with callsign := some (callsignOfBody body) })

/-- Class POSVEL (42_dispatch.md R143): the two rows, on a CRC-valid frame, complete with the record with raw position, altitude,
speed and heading. -/
def Obligations.PosvelFramesEmitPositionAltitudeAndVelocity : Prop :=
  ∀ (fs : BitVec 3) (icao : BitVec 24) (body : BitVec 48) (crc : BitVec 24) (s : State),
    (CrcValid (.posvelSt1 fs icao body crc) →
      ∃ t, exec (.posvelSt1 fs icao body crc) s = .next t ∧
        CompletesWith s t { minimalRecord s.registry icao with
          position := some (positionOfBody body)
          altitude := some (alt12OfBody body)
          velocity := some (velocityOfBody body) }) ∧
    (CrcValid (.posvelSt2 fs icao body crc) →
      ∃ t, exec (.posvelSt2 fs icao body crc) s = .next t ∧
        CompletesWith s t { minimalRecord s.registry icao with
          position := some (positionOfBody body)
          altitude := some (alt12OfBody body)
          velocity := some (velocityOfBody body) })

/-- Class POS (42_dispatch.md R144): the two rows, on a CRC-valid frame, complete with the record with raw position and altitude;
speed and heading are absent. -/
def Obligations.PosFramesEmitPositionAndAltitude : Prop :=
  ∀ (fs : BitVec 3) (icao : BitVec 24) (body : BitVec 48) (crc : BitVec 24) (s : State),
    (CrcValid (.posSt3 fs icao body crc) →
      ∃ t, exec (.posSt3 fs icao body crc) s = .next t ∧
        CompletesWith s t { minimalRecord s.registry icao with
          position := some (positionOfBody body)
          altitude := some (alt12OfBody body) }) ∧
    (CrcValid (.posSt4 fs icao body crc) →
      ∃ t, exec (.posSt4 fs icao body crc) s = .next t ∧
        CompletesWith s t { minimalRecord s.registry icao with
          position := some (positionOfBody body)
          altitude := some (alt12OfBody body) })

/-- Class MIN (42_dispatch.md R145, 60_exceptions.md R173): each of the 58 rows `MIN.…` (every constructor whose class is
min: DF1 to DF3, DF5 to DF15, DF18, DF19, DF21 to DF31; DF17 with TC0, TC5 to TC18, TC20 to TC31, and with TC19 ST0, ST5,
ST6, ST7), on a CRC-valid frame, completes with the record that has icao, crc_valid and the registry fields only. -/
def Obligations.MinFramesEmitTheMinimalRecord : Prop :=
  ∀ (i : Instr) (s : State), i.cls = .min → CrcValid i →
    ∃ t, exec i s = .next t ∧ CompletesWith s t (minimalRecord s.registry i.icao)

/-- CHECKSUM_MISMATCH, for every row: a frame whose checksum is not the one it carries is dropped, nothing else leaves the
ports and SEEN_VALID is as before (60_exceptions.md R172). -/
def Obligations.MismatchedFramesAreDropped : Prop :=
  ∀ (i : Instr) (s : State) (c : BitVec 24),
    computeCrc (encode i) (lenByType i.df) = some c → c ≠ i.crc →
    ∃ t, exec i s = .next t ∧ DropsWith s t (.checksumMismatch c i.crc)

/-- Every frame transaction completes: no instruction faults or is refused, in any state (30_encoding.md R65: "The only
way a frame is refused is by its byte count or its checksum"). -/
def Obligations.EveryFrameTransactionCompletes : Prop :=
  ∀ (i : Instr) (s : State), ∃ t, exec i s = .next t

/-- The frame of every instruction: boot, registry and pending host events are unchanged, no transaction stays open, and
either SEEN_VALID is set and a lookup, RECORD and one record of the frame's own ICAO leave, or SEEN_VALID is unchanged
and one CHECKSUM_MISMATCH leaves; earlier outputs stand. The block has no memory. -/
def Obligations.FramesChangeOnlyStatusLatchAndPorts : Prop :=
  ∀ (i : Instr) (s t : State), exec i s = .next t →
    t.boot = s.boot ∧ t.registry = s.registry ∧ t.hostInput = s.hostInput ∧ t.latch = none ∧
    ((t.seenValid = true ∧ ∃ r, r.icao = i.icao ∧ r.crcValid = true ∧
        t.portLog = s.portLog ++ [.regLookup i.icao r.registry, .outcome .record, .recordOut r]) ∨
     (t.seenValid = s.seenValid ∧ ∃ c e, t.portLog = s.portLog ++ [.outcome (.checksumMismatch c e)]))

/-- A record has exactly the presence bits of its frame's class, and the registry's where the lookup matches
(42_dispatch.md R141 to R147). -/
def Obligations.PresenceBitsAreThoseOfTheClass : Prop :=
  ∀ (i : Instr) (s t : State) (r : Record), exec i s = .next t → t.portLog.getLast? = some (.recordOut r) →
    (r.presentAltitude = true ↔ i.cls = .alt13 ∨ i.cls = .posvel ∨ i.cls = .pos) ∧
    (r.presentCallsign = true ↔ i.cls = .ident) ∧
    (r.presentPosition = true ↔ i.cls = .posvel ∨ i.cls = .pos) ∧
    (r.presentVelocity = true ↔ i.cls = .posvel) ∧
    (r.presentRegistry = true ↔ (registryLookup s.registry i.icao).isSome = true)

/-! ### The pipeline and the step -/

/-- The machine, which decodes a frame and runs its instruction, is the pipeline of 42_dispatch.md R148 on every byte
string and every state. -/
def Obligations.TheMachineRefinesTheFramePipeline : Prop :=
  ∀ (bytes : List Byte) (s : State), runFrame bytes s = pipeline bytes s

/-- A step with a frame first in line, after boot, is exec of the decoded instruction on the state that has taken the
event and latched the frame, whether the frame came on FRAME_IN or as a line that the front end turned into it
(42_dispatch.md R148, R149; 10_state.md R25). -/
def Obligations.AStepRunsTheDecodedInstruction : Prop :=
  ∀ (s : State) (bytes : List Byte) (rest : List HostEvent) (i : Instr),
    PresentsFrame s bytes rest → s.boot = .running → decode bytes = .ok i →
    step s = exec i { s with hostInput := rest, latch := some bytes }

/-- The very next step after a table word is placed runs the instruction the word decodes to (log entry 12). -/
def Obligations.APlacedTableWordRunsNext : Prop :=
  ∀ (s : State) (nbits w : ℕ) (i : Instr), decodeTableWord nbits w = some i →
    step (s.withFetchWord nbits w) =
      exec i { s with boot := .running, latch := some (tableFrame nbits w) }

/-- A line, with or without its final LF, after boot (42_dispatch.md R149, 30_encoding.md R68): a line of the grammar is the
frame transaction of the bytes of its hex pairs, as if they had come on FRAME_IN; a blank line is skipped, with no
transaction and no outcome; any other line gives MALFORMED(HEX) and nothing else; and every line that is not blank gives
exactly one outcome. -/
def Obligations.LinesAreFramesBlanksOrMalformed : Prop :=
  ∀ (s : State) (text : Text) (rest : List HostEvent), s.boot = .running → '\n' ∉ text →
    s.hostInput = .line text :: rest ∨ s.hostInput = .line (text ++ ['\n']) :: rest →
    (∀ bytes, LineGrammar text bytes →
      step s = runFrame bytes { s with hostInput := rest } ∧
      step s = step { s with hostInput := .frameIn bytes :: rest }) ∧
    ((∀ c ∈ text, IsWs c) → step s = .next { s with hostInput := rest }) ∧
    ((∃ c ∈ text, ¬ IsWs c) → (∀ bytes, ¬ LineGrammar text bytes) →
      ∃ t, step s = .next t ∧ t.hostInput = rest ∧ DropsWith s t (.malformed .hex)) ∧
    ((∃ c ∈ text, ¬ IsWs c) →
      ∃ t o, step s = .next t ∧ (newOutputs s t).filter PortEvent.isOutcome = [.outcome o])

/-- MALFORMED in its three cases, each with no effect but the outcome and the next event's turn: HEX for a line the front
end rejects, EMPTY for no bytes, LENGTH for a byte count that is not the one of the type, whatever the checksum, on
FRAME_IN or from a line (60_exceptions.md R171). -/
def Obligations.MalformedInputsAreDropped : Prop :=
  ∀ (s : State) (rest : List HostEvent), s.boot = .running →
    (∀ text, s.hostInput = .line text :: rest → frontEnd text = .badHex →
      ∃ t, step s = .next t ∧ t.hostInput = rest ∧ DropsWith s t (.malformed .hex)) ∧
    (PresentsFrame s [] rest →
      ∃ t, step s = .next t ∧ t.hostInput = rest ∧ DropsWith s t (.malformed .empty)) ∧
    (∀ b0 bs, PresentsFrame s (b0 :: bs) rest → 8 * (b0 :: bs).length ≠ lenByType (b0.extractLsb' 3 5) →
      ∃ t, step s = .next t ∧ t.hostInput = rest ∧ DropsWith s t
        (.malformed (.length (b0 :: bs).length (lenByType (b0.extractLsb' 3 5) / 8))))

/-- Every FRAME_IN transaction ends with exactly one outcome, and so does every line that is not skipped; its code is 0, 1
or 2, a record leaves exactly when it is 0, and SEEN_VALID is set exactly then (60_exceptions.md R170). A skipped line
gives no outcome and no other output, and changes nothing (42_dispatch.md R149). -/
def Obligations.ExactlyOneOutcomePerTransaction : Prop :=
  ∀ (s : State) (e : HostEvent) (rest : List HostEvent), s.hostInput = e :: rest →
    (∀ t, ((∃ bytes, e = .frameIn bytes) ∨ ∃ text, e = .line text ∧ frontEnd text ≠ .skip) → step s = .next t →
      ∃ o, (newOutputs s t).filter PortEvent.isOutcome = [.outcome o] ∧
        (o.code = 0 ∨ o.code = 1 ∨ o.code = 2) ∧
        ((newOutputs s t).filter PortEvent.isRecord).length = (if o.code = 0 then 1 else 0) ∧
        t.seenValid = (if o.code = 0 then true else s.seenValid)) ∧
    (∀ text, e = .line text → frontEnd text = .skip → s.boot = .running →
      ∃ t, step s = .next t ∧ newOutputs s t = [] ∧ t = { s with hostInput := rest })

/-- The registry is consulted exactly once for every record, with the record's ICAO, and never for a dropped frame; a
match gives the record's four registry fields, a miss leaves them absent (42_dispatch.md R147). -/
def Obligations.TheRegistryIsConsultedOncePerRecord : Prop :=
  ∀ (i : Instr) (s t : State), exec i s = .next t →
    (∀ r, .recordOut r ∈ newOutputs s t →
      r.registry = registryLookup s.registry r.icao ∧
      (newOutputs s t).filter PortEvent.isLookup = [.regLookup r.icao (registryLookup s.registry r.icao)]) ∧
    ((∀ r, .recordOut r ∉ newOutputs s t) → (newOutputs s t).filter PortEvent.isLookup = [])

/-- No step reads beyond a frame or a table, from any state (20_memory.md R46, 70_reset_and_hazards.md R194), and none is
refused. -/
def Obligations.NoStepEverReadsBeyondTheFrame : Prop :=
  ∀ s : State, step s ≠ .fault .overRead ∧ ∀ r, step s ≠ .refused r

/-- What a frame transaction outputs depends on the frame and the registry alone, not on earlier frames, the status, or
anything else in the state (30_encoding.md R66, 10_state.md R30). -/
def Obligations.OutputsDoNotDependOnEarlierFrames : Prop :=
  ∀ (bytes : List Byte) (s s' t : State), s.registry = s'.registry → runFrame bytes s = .next t →
    ∃ t', runFrame bytes s' = .next t' ∧ newOutputs s t = newOutputs s' t'

/-! ### Status, transport, reset, boot -/

/-- The state after reset (70_reset_and_hazards.md R190, R192): STATUS is 0x00 and no transaction is in progress; the same
at power-up. That the latch holds `none` then is the model's reading of "no value" (log entry 7). -/
def Obligations.ResetStateIsTheLaunchState : Prop :=
  State.reset.statusRegister = 0x00 ∧ State.reset.seenValid = false ∧ State.reset.latch = none ∧
  State.powerUp.statusRegister = 0x00 ∧ State.powerUp.latch = none

/-- RESET of a running instance completes, clears STATUS, and changes neither the registry nor anything the ports have
carried; its only effect is R190's (70_reset_and_hazards.md R190, R191). That no transaction is in progress then is the
model's latch holding `none` (log entry 7), and that the instance still runs is the model's boot phase (log entry 3). -/
def Obligations.ResetOnlyClearsTheStatusBit : Prop :=
  ∀ (s : State) (rest : List HostEvent), s.hostInput = .reset :: rest → s.boot = .running →
    ∃ t, step s = .next t ∧ t.statusRegister = 0x00 ∧ t.latch = none ∧ t.boot = .running ∧
      t.registry = s.registry ∧ t.portLog = s.portLog ∧ t.hostInput = rest

/-- SEEN_VALID is set by a RECORD outcome, cleared by reset, and written by no other event (10_state.md R24). -/
def Obligations.SeenValidIsWrittenByRecordAndResetOnly : Prop :=
  ∀ s t : State, step s = .next t →
    (.outcome .record ∈ newOutputs s t → t.seenValid = true) ∧
    ((∃ rest, s.hostInput = .reset :: rest) → t.seenValid = false) ∧
    (.outcome .record ∉ newOutputs s t → (∀ rest, s.hostInput ≠ .reset :: rest) → t.seenValid = s.seenValid)

/-- STATUS_READ returns the 8-bit register, SEEN_VALID in bit 0 and zeros in bits 7:1, and changes nothing
(10_state.md R23, R28). That it is answered before boot has completed too is the model's (log entry 17). -/
def Obligations.StatusReadReturnsTheRegister : Prop :=
  ∀ (s : State) (rest : List HostEvent), s.hostInput = .statusRead :: rest →
    ∃ v : BitVec 8, step s = .next ({ s with hostInput := rest }.afterPort (.statusRead v)) ∧
      v.getLsbD 0 = s.seenValid ∧ ∀ k, 1 ≤ k → v.getLsbD k = false

/-- A transport event gives one report, actionable exactly when no valid frame has been seen, and changes no state
(60_exceptions.md R177). That it is answered before boot has completed too is the model's (log entry 17). -/
def Obligations.TransportFailuresAreGradedByTheStatusBit : Prop :=
  ∀ (s : State) (rest : List HostEvent), s.hostInput = .transportIn :: rest →
    step s = .next ({ s with hostInput := rest }.afterPort (.faultOut (if s.seenValid then false else true)))

/-- The status bit is visible to every event after a RECORD outcome until a reset, and to none before it: at any later
point a status read returns 0x01 and a transport event reports actionable = 0, whatever else the host presented; one taken
before the frame sees the older value (70_reset_and_hazards.md R196, an inference the spec marks as its own). That one taken
before boot has completed is answered is the model's (log entry 17). -/
def Obligations.TheStatusBitIsVisibleToLaterEvents : Prop :=
  ∀ s t : State, step s = .next t →
    (.outcome .record ∈ newOutputs s t → ∀ (u : State) (rest : List HostEvent), RunsWithoutReset t u →
      (u.hostInput = .statusRead :: rest →
        step u = .next ({ u with hostInput := rest }.afterPort (.statusRead 0x01))) ∧
      (u.hostInput = .transportIn :: rest →
        step u = .next ({ u with hostInput := rest }.afterPort (.faultOut false)))) ∧
    ∀ rest,
      (s.hostInput = .statusRead :: rest → newOutputs s t = [.statusRead (if s.seenValid then 0x01 else 0x00)]) ∧
      (s.hostInput = .transportIn :: rest → newOutputs s t = [.faultOut (!s.seenValid)])

/-- Boot (70_reset_and_hazards.md R192, 60_exceptions.md R178): a registry load and then a reset make a powered-up
instance ready, whatever the registry; a failed load aborts; no frame or line is accepted before boot has completed. -/
def Obligations.FramesWaitForBoot : Prop :=
  (∀ (reg : Registry) (s : State) (rest : List HostEvent), s.boot = .awaitingRegistry →
    s.hostInput = .loadRegistry (some reg) :: .reset :: rest →
    ∃ t, step s = .next t ∧
      step t = .next { s with
        seenValid := false, latch := none, boot := .running, registry := reg, hostInput := rest }) ∧
  (∀ (s : State) (rest : List HostEvent), s.boot = .awaitingRegistry → s.hostInput = .loadRegistry none :: rest →
    step s = .fault .registryLoadFailure) ∧
  (∀ (s : State) (e : HostEvent) (rest : List HostEvent), s.boot ≠ .running → s.hostInput = e :: rest →
    ((∃ bytes, e = .frameIn bytes) ∨ ∃ text, e = .line text) → step s = .fault .notStarted)

/-- Once an instance runs, it keeps running, and its registry never changes (10_state.md R29). -/
def Obligations.TheRegistryIsFixedOnceRunning : Prop :=
  ∀ s t : State, s.boot = .running → step s = .next t → t.boot = .running ∧ t.registry = s.registry

/-- With no event pending the block waits and nothing changes (60_exceptions.md R176; log entry 2). -/
def Obligations.WaitingChangesNothing : Prop :=
  ∀ s : State, s.hostInput = [] → step s = .next s

/-! ### Invariant -/

/-- The invariant holds after reset and at power-up. -/
def Obligations.ResetAndPowerUpMeetTheInvariant : Prop := State.reset.Inv ∧ State.powerUp.Inv

/-- Every step keeps the invariant: no open transaction, SEEN_VALID justified by a RECORD outcome, and every output
lawful (10_state.md R20, R23, R24, R27; 20_memory.md R48; 41_extract.md R105 to R112). That the latch is `none` between
transactions is the model's (log entry 7). -/
def Obligations.EveryStepKeepsTheInvariant : Prop :=
  ∀ s t : State, s.Inv → step s = .next t → t.Inv

/-! ### Front end and output object -/

/-- The front end accepts exactly the lines of the grammar, with the bytes of their hex pairs, with or without a final
LF, and skips exactly the blank ones (30_encoding.md R68, 42_dispatch.md R149). -/
def Obligations.TheFrontEndAcceptsExactlyTheGrammar : Prop :=
  ∀ t : Text, '\n' ∉ t →
    (∀ bytes, frontEnd t = .frame bytes ↔ LineGrammar t bytes) ∧
    (frontEnd t = .skip ↔ ∀ c ∈ t, IsWs c) ∧
    frontEnd (t ++ ['\n']) = frontEnd t

/-- The output object has exactly the keys of the fields that are present, each once, with the values of
42_dispatch.md R150; an absent field has no key (R151). -/
def Obligations.SerializedKeysAreThePresentFields : Prop :=
  ∀ r : Record,
    ((serializedPairs r).map Prod.fst).Nodup ∧
    (∀ e ∈ serializedPairs r, e.1 ∈ ["icao", "crc_valid", "altitude", "callsign", "coordpair_even", "raw_lat", "raw_lon",
      "speed", "heading", "regid", "mdl", "type", "operator"]) ∧
    (∀ v, ("icao", v) ∈ serializedPairs r ↔ v = .text (icaoText r.icao)) ∧
    (∀ v, ("crc_valid", v) ∈ serializedPairs r ↔ v = .bool r.crcValid) ∧
    (∀ v, ("altitude", v) ∈ serializedPairs r ↔ ∃ a, r.altitude = some a ∧ v = .integer a.toInt) ∧
    (∀ v, ("callsign", v) ∈ serializedPairs r ↔ ∃ c, r.callsign = some c ∧ v = .text c) ∧
    (∀ v, ("coordpair_even", v) ∈ serializedPairs r ↔
      ∃ p, r.position = some p ∧ v = .bool (decide (p.posF = Config.evenPolarity))) ∧
    (∀ v, ("raw_lat", v) ∈ serializedPairs r ↔ ∃ p, r.position = some p ∧ v = .integer p.rawLat.toNat) ∧
    (∀ v, ("raw_lon", v) ∈ serializedPairs r ↔ ∃ p, r.position = some p ∧ v = .integer p.rawLon.toNat) ∧
    (∀ v, ("speed", v) ∈ serializedPairs r ↔ ∃ x, r.velocity = some x ∧ v = .number x.speed) ∧
    (∀ v, ("heading", v) ∈ serializedPairs r ↔ ∃ x, r.velocity = some x ∧ v = .number x.heading) ∧
    (∀ v, ("regid", v) ∈ serializedPairs r ↔ ∃ a, r.registry = some a ∧ v = .text a.regid) ∧
    (∀ v, ("mdl", v) ∈ serializedPairs r ↔ ∃ a, r.registry = some a ∧ v = .text a.mdl) ∧
    (∀ v, ("type", v) ∈ serializedPairs r ↔ ∃ a, r.registry = some a ∧ v = .text a.actype) ∧
    (∀ v, ("operator", v) ∈ serializedPairs r ↔ ∃ a, r.registry = some a ∧ v = .text a.operator)

/-- The ICAO key's text is exactly six lowercase hex digits, most significant first, whose value is the address
(42_dispatch.md R150). -/
def Obligations.IcaoTextIsSixLowercaseHexDigits : Prop :=
  ∀ a : BitVec 24, (icaoText a).length = 6 ∧
    ∀ k, k < 6 →
      (icaoText a)[k]? =
        ['0', '1', '2', '3', '4', '5', '6', '7', '8', '9', 'a', 'b', 'c', 'd', 'e', 'f'][a.toNat / 16 ^ (5 - k) % 16]?

/-! ### Several instances -/

/-- A step of the system touches the instance its move names, and no other: another instance's own state and its outputs at
the boundary are as before, and so is the registry. An advancing instance steps as it steps by itself with the shared
registry, and nothing reaches the boundary; a delivery changes no instance (60_exceptions.md R180, 20_memory.md R50). -/
def Obligations.InstancesDoNotTouchOneAnother : Prop :=
  ∀ (sys sys' : System) (m : SystemMove) (rest : List SystemMove),
    sys.schedule = m :: rest → systemStep sys = .next sys' →
    sys'.schedule = rest ∧
    (∀ k, m.core = some k → sys'.registry = sys.registry ∧
      ∀ j, j ≠ k → sys'.cores[j]? = sys.cores[j]? ∧ sys'.outputsOf j = sys.outputsOf j) ∧
    (∀ k, m = .advance k → sys'.boundary = sys.boundary ∧
      ∃ c t, sys.cores[k]? = some c ∧ step (c.withRegistry sys.registry) = .next t ∧ sys'.cores[k]? = some t.own) ∧
    (∀ k, m = .deliver k → sys'.cores = sys.cores)

/-- The registry of the system is one for all instances, and fixed: once any of them has gone on from the load, no step of
the system changes it, and every record an advancing instance emits carries its answer (20_memory.md R50,
60_exceptions.md R180, 10_state.md R29; log entries 3, 13). -/
def Obligations.InstancesShareOneFixedRegistry : Prop :=
  ∀ sys sys' : System, systemStep sys = .next sys' →
    ((∃ c ∈ sys.cores, c.boot ≠ .awaitingRegistry) → sys'.registry = sys.registry) ∧
    ∀ k rest c c', sys.schedule = .advance k :: rest → sys.cores[k]? = some c → sys'.cores[k]? = some c' →
      ∀ r, .recordOut r ∈ c'.portLog.drop c.portLog.length → r.registry = registryLookup sys.registry r.icao

/-- Boot of the system (70_reset_and_hazards.md R192, 60_exceptions.md R178; log entries 3, 13): while every instance awaits
the registry, a load fixes it for all of them, and a failed load aborts; once an instance has gone on there is no other
load, and an instance has no load of its own. -/
def Obligations.TheRegistryIsLoadedOnceForAllInstances : Prop :=
  ∀ (sys : System) (rest : List SystemMove),
    ((∀ c ∈ sys.cores, c.boot = .awaitingRegistry) →
      (∀ reg, sys.schedule = .load (some reg) :: rest →
        systemStep sys = .next { sys with
          registry := reg, cores := sys.cores.map (fun c => { c with boot := .awaitingReset }), schedule := rest }) ∧
      (sys.schedule = .load none :: rest → systemStep sys = .fault .registryLoadFailure)) ∧
    ((∃ c ∈ sys.cores, c.boot ≠ .awaitingRegistry) →
      ∀ loaded, sys.schedule = .load loaded :: rest → systemStep sys = .fault .registryReload) ∧
    (∀ k c loaded more, sys.schedule = .advance k :: rest → sys.cores[k]? = some c →
      c.hostInput = .loadRegistry loaded :: more → systemStep sys = .fault (.ownRegistryLoad k))

/-- Moves of different instances commute: in either order the instances end in the same states, and each one's outputs at
the boundary are the same; only their interleaving differs (20_memory.md R49, R50). -/
def Obligations.MovesOfDifferentInstancesCommute : Prop :=
  ∀ (sys a : System) (m n : SystemMove) (j k : ℕ) (rest : List SystemMove),
    m.core = some j → n.core = some k → j ≠ k →
    systemSteps 2 { sys with schedule := m :: n :: rest } = .next a →
    ∃ b, systemSteps 2 { sys with schedule := n :: m :: rest } = .next b ∧
      a.registry = b.registry ∧ a.cores = b.cores ∧ a.schedule = b.schedule ∧ ∀ i, a.outputsOf i = b.outputsOf i

/-- The system after reset has at least one instance, each of them at State.reset, and nothing at the boundary, so it meets
the premise of EachInstancesOutputsKeepTheirOrder; so does the system at power-up, whose instances all await the registry
(00_scope.md R6, 60_exceptions.md R180, 70_reset_and_hazards.md R190, R192; log entries 9, 13, 20). -/
def Obligations.SystemResetIsEveryInstanceAtReset : Prop :=
  System.reset.cores.length = Config.nInstances ∧ 1 ≤ Config.nInstances ∧
  (∀ c ∈ System.reset.cores, c.withRegistry System.reset.registry = State.reset) ∧
  (∀ k c, System.reset.cores[k]? = some c → System.reset.outputsOf k <+: c.portLog) ∧
  System.powerUp.cores.length = Config.nInstances ∧
  (∀ c ∈ System.powerUp.cores, c.withRegistry System.powerUp.registry = State.powerUp ∧ c.boot = .awaitingRegistry) ∧
  ∀ k c, System.powerUp.cores[k]? = some c → System.powerUp.outputsOf k <+: c.portLog

/-- At the common boundary each instance's outputs stand in the order in which the instance produced them, whatever the
schedule: what has reached it is a first part of the instance's own log, and every step keeps that (20_memory.md R48,
R49). -/
def Obligations.EachInstancesOutputsKeepTheirOrder : Prop :=
  ∀ sys sys' : System, (∀ k c, sys.cores[k]? = some c → sys.outputsOf k <+: c.portLog) →
    systemStep sys = .next sys' → ∀ k c, sys'.cores[k]? = some c → sys'.outputsOf k <+: c.portLog

/-- Every interleaving of the instances' output streams is admitted: any order of outputs in which each instance's own
order is kept reaches the boundary under some schedule (20_memory.md R49). -/
def Obligations.EveryInterleavingIsAdmitted : Prop :=
  ∀ (reg : Registry) (cores : List Instance) (order : List (ℕ × PortEvent)),
    (∀ p ∈ order, p.1 < cores.length) →
    (∀ k c, cores[k]? = some c → ((order.filter fun p => p.1 == k).map Prod.snd) <+: c.portLog) →
    ∃ schedule, systemSteps schedule.length ⟨reg, cores, schedule, []⟩ = .next ⟨reg, cores, [], order⟩
end

