-- ==== Sys2Proof/Laws/Bits.lean ====
section
/-! SUPPORT. Taking a byte or a word apart and putting it together again. -/

namespace Sys2Proof.Laws

@[simp] theorem typeBits_append (df : BitVec 5) (fs : BitVec 3) : typeBits (df ++ fs) = df :=
  BitVec.extractLsb'_append_eq_left

@[simp] theorem low3Bits_append (df : BitVec 5) (fs : BitVec 3) : low3Bits (df ++ fs) = fs :=
  BitVec.extractLsb'_append_eq_right

/-- A byte is its type field followed by its low three bits. -/
@[simp] theorem typeBits_append_low3Bits (b : Byte) : typeBits b ++ low3Bits b = b := by
  have h : b.extractLsb' 3 5 ++ b.extractLsb' 0 3 = b.extractLsb' 0 8 :=
    BitVec.extractLsb'_append_extractLsb'_eq_extractLsb' rfl
  exact h.trans BitVec.extractLsb'_eq_self

/-- Three bytes taken from a 24-bit word, put together, give the word. -/
@[simp] theorem append_bytes_24 (x : BitVec 24) :
    x.extractLsb' 16 8 ++ x.extractLsb' 8 8 ++ x.extractLsb' 0 8 = x := by
  have h : x.extractLsb' 16 8 ++ x.extractLsb' 8 8 = x.extractLsb' 8 16 :=
    BitVec.extractLsb'_append_extractLsb'_eq_extractLsb' rfl
  have h' : x.extractLsb' 8 16 ++ x.extractLsb' 0 8 = x.extractLsb' 0 24 :=
    BitVec.extractLsb'_append_extractLsb'_eq_extractLsb' rfl
  rw [h]
  exact h'.trans BitVec.extractLsb'_eq_self

/-- The number of two words put together. -/
theorem toNat_append_eq {n m : Nat} (a : BitVec n) (b : BitVec m) : (a ++ b).toNat = a.toNat * 2 ^ m + b.toNat := by
  rw [BitVec.toNat_append, ← Nat.shiftLeft_add_eq_or_of_lt b.isLt, Nat.shiftLeft_eq]

/-- Six bytes taken from a 48-bit word, put together, give the word. -/
@[simp] theorem append_bytes_48 (x : BitVec 48) :
    x.extractLsb' 40 8 ++ x.extractLsb' 32 8 ++ x.extractLsb' 24 8 ++ x.extractLsb' 16 8 ++ x.extractLsb' 8 8 ++
      x.extractLsb' 0 8 = x := by
  apply BitVec.eq_of_toNat_eq
  erw [toNat_append_eq, toNat_append_eq, toNat_append_eq, toNat_append_eq, toNat_append_eq]
  simp only [BitVec.extractLsb'_toNat, Nat.shiftRight_eq_div_pow]
  have := x.isLt
  omega

/-- A 56-bit word is its top byte followed by its low 48 bits. -/
@[simp] theorem append_top_byte_56 (x : BitVec 56) : x.extractLsb' 48 8 ++ x.extractLsb' 0 48 = x := by
  have h : x.extractLsb' 48 8 ++ x.extractLsb' 0 48 = x.extractLsb' 0 56 :=
    BitVec.extractLsb'_append_extractLsb'_eq_extractLsb' rfl
  exact h.trans BitVec.extractLsb'_eq_self

end Sys2Proof.Laws
end

