-- ==== Sys2Proof/Laws/Decode.lean ====
section
/-! SUPPORT. What the decoder makes of the frames the encoder writes, and the two lengths at which it answers an
instruction. -/

namespace Sys2Proof.Laws

/-- A length check passes only for a row that exists. -/
theorem lengthChecked_ok {nb : Nat} {b0 : Byte} {row : Option Instr} {i : Instr} (h : lengthChecked nb b0 row = .ok i) :
    row = some i := by
  cases row <;> simp [lengthChecked] at h ⊢
  exact h

/-- A short frame decodes as the row of its type, with its fields as operands. -/
theorem decode_shortFrame (df : BitVec 5) (fs : BitVec 3) (icao crc : BitVec 24) :
    decode (shortFrame df fs icao crc) = lengthChecked 7 (df ++ fs) (decodeShort df fs icao crc) := by
  have h : decode (shortFrame df fs icao crc) = lengthChecked 7 (df ++ fs)
      (decodeShort (typeBits (df ++ fs)) (low3Bits (df ++ fs))
        (icao.extractLsb' 16 8 ++ icao.extractLsb' 8 8 ++ icao.extractLsb' 0 8)
        (crc.extractLsb' 16 8 ++ crc.extractLsb' 8 8 ++ crc.extractLsb' 0 8)) := rfl
  rw [h, typeBits_append, low3Bits_append, append_bytes_24, append_bytes_24]

/-- A long frame decodes as the row of its key, with its fields as operands. -/
theorem decode_longFrame (df : BitVec 5) (fs : BitVec 3) (icao : BitVec 24) (b4 : Byte) (body : BitVec 48)
    (crc : BitVec 24) :
    decode (longFrame df fs icao b4 body crc) = lengthChecked 14 (df ++ fs) (decodeLong df fs icao b4 body crc) := by
  have h : decode (longFrame df fs icao b4 body crc) = lengthChecked 14 (df ++ fs)
      (decodeLong (typeBits (df ++ fs)) (low3Bits (df ++ fs))
        (icao.extractLsb' 16 8 ++ icao.extractLsb' 8 8 ++ icao.extractLsb' 0 8) b4
        (body.extractLsb' 40 8 ++ body.extractLsb' 32 8 ++ body.extractLsb' 24 8 ++ body.extractLsb' 16 8 ++
          body.extractLsb' 8 8 ++ body.extractLsb' 0 8)
        (crc.extractLsb' 16 8 ++ crc.extractLsb' 8 8 ++ crc.extractLsb' 0 8)) := rfl
  rw [h, typeBits_append, low3Bits_append, append_bytes_24, append_bytes_24, append_bytes_48]

/-- Bytes that decode are seven bytes with a short row, or fourteen with a long one. -/
theorem decode_ok_cases {bytes : List Byte} {i : Instr} (h : decode bytes = .ok i) :
    (∃ b0 b1 b2 b3 b4 b5 b6, bytes = [b0, b1, b2, b3, b4, b5, b6] ∧
      decodeShort (typeBits b0) (low3Bits b0) (b1 ++ b2 ++ b3) (b4 ++ b5 ++ b6) = some i) ∨
    ∃ b0 b1 b2 b3 b4 b5 b6 b7 b8 b9 b10 b11 b12 b13,
      bytes = [b0, b1, b2, b3, b4, b5, b6, b7, b8, b9, b10, b11, b12, b13] ∧
      decodeLong (typeBits b0) (low3Bits b0) (b1 ++ b2 ++ b3) b4 (b5 ++ b6 ++ b7 ++ b8 ++ b9 ++ b10)
        (b11 ++ b12 ++ b13) = some i := by
  unfold decode at h
  split at h
  · cases h
  · exact .inl ⟨_, _, _, _, _, _, _, rfl, lengthChecked_ok h⟩
  · exact .inr ⟨_, _, _, _, _, _, _, _, _, _, _, _, _, _, rfl, lengthChecked_ok h⟩
  · exact absurd (lengthChecked_ok h) (by simp)

end Sys2Proof.Laws
end

