-- ==== Sys2Proof/Laws/Frame.lean ====
section
/-! SUPPORT. What the readers of the frame latch give: a byte inside the frame exists, a field inside the frame exists,
and a read beyond it is none. -/

namespace Sys2Proof.Laws

open Sys2Proof.Machine

/-- A byte position inside the frame has a byte. -/
theorem byteAt_isSome {fb : List Byte} {k : Nat} (h : k < fb.length) : ∃ b, byteAt fb k = some b :=
  ⟨fb[k], List.getElem?_eq_getElem h⟩

/-- A frame bit position inside the frame has a bit. -/
theorem bitAt_isSome {fb : List Byte} {j : Nat} (h : j < 8 * fb.length) : ∃ b, bitAt fb j = some b := by
  obtain ⟨b, hb⟩ := byteAt_isSome (fb := fb) (k := j / 8) (by omega)
  exact ⟨b.getLsbD (7 - j % 8), by simp [bitAt, hb]⟩

/-- A frame bit position beyond the frame has none (20_memory.md R46). -/
theorem bitAt_beyond {fb : List Byte} {j : Nat} (h : 8 * fb.length ≤ j) : bitAt fb j = none := by
  have : byteAt fb (j / 8) = none := List.getElem?_eq_none (by omega)
  simp [bitAt, this]

/-- A bit field inside the frame exists. -/
theorem bitField_isSome {fb : List Byte} {a n : Nat} (h : a + n ≤ 8 * fb.length) : ∃ v, bitField fb a n = some v := by
  induction n with
  | zero => exact ⟨_, rfl⟩
  | succ k ih =>
    obtain ⟨v, hv⟩ := ih (by omega)
    obtain ⟨b, hb⟩ := bitAt_isSome (fb := fb) (j := a + k) (by omega)
    exact ⟨v.concat b, by simp [bitField, hv, hb]⟩

/-- Bytes inside the frame can be read as one integer. -/
theorem memRead_isSome {fb : List Byte} {k n : Nat} (h : k + n ≤ fb.length) : ∃ v, memRead fb k n = some v := by
  induction n with
  | zero => exact ⟨_, rfl⟩
  | succ j ih =>
    obtain ⟨v, hv⟩ := ih (by omega)
    obtain ⟨b, hb⟩ := byteAt_isSome (fb := fb) (k := k + j) (by omega)
    exact ⟨v ++ b, by simp only [memRead, hv, hb]⟩

/-- The checksum loop completes when every bit it reads is in the frame and every entry it reads is in the table. -/
theorem crcLoop_isSome {table : List (BitVec 24)} {fb : List Byte} {off n : Nat} (hb : n ≤ 8 * fb.length)
    (ht : n + off ≤ table.length) : ∃ c, crcLoop table fb off n = some c := by
  induction n with
  | zero => exact ⟨_, rfl⟩
  | succ j ih =>
    obtain ⟨acc, hacc⟩ := ih (by omega) (by omega)
    obtain ⟨b, hbit⟩ := bitAt_isSome (fb := fb) (j := j) (by omega)
    have he : readCrcTable table (j + off) = some table[j + off] := List.getElem?_eq_getElem (by omega)
    cases b <;> simp [crcLoop, hacc, hbit, he]

/-- CRC_TABLE has 112 entries. -/
theorem crcTable_length : crcTable.length = 112 := by decide

/-- CHARSET has 64 entries. -/
theorem charset_length : charset.length = 64 := by decide

/-- A length-correct frame has a checksum. -/
theorem computeCrc_isSome {fb : List Byte} {len : Nat} (hl : len = 56 ∨ len = 112) (h : 8 * fb.length = len) :
    ∃ c, computeCrc fb len = some c := by
  have ho : len + crcOffset len ≤ crcTable.length := by
    rcases hl with rfl | rfl <;> simp [crcOffset, crcTable_length]
  obtain ⟨c, hc⟩ := crcLoop_isSome (fb := fb) (by omega : len ≤ 8 * fb.length) ho
  exact ⟨c &&& 0xFFFFFF, by simp [computeCrc, computeCrcWith, hc]⟩

/-- A length-correct frame carries a checksum. -/
theorem embeddedCrc_isSome {fb : List Byte} {len : Nat} (hl : len = 56 ∨ len = 112) (h : 8 * fb.length = len) :
    ∃ c, embeddedCrc fb len = some c :=
  memRead_isSome (fb := fb) (k := len / 8 - 3) (n := 3) (by omega)

/-- The length rule gives 56 or 112. -/
theorem lenByType_cases (t : BitVec 5) : lenByType t = 56 ∨ lenByType t = 112 := by
  unfold lenByType
  split
  · exact .inr rfl
  · exact .inl rfl

/-- Every code has a character (41_extract.md R108: the 64 codes index the 64 entries). -/
theorem readCharset_isSome (c : BitVec 6) : ∃ x, readCharset c = some x ∧ x ∈ charset := by
  have h : c.toNat < charset.length := by rw [charset_length]; exact c.isLt
  exact ⟨charset[c.toNat], List.getElem?_eq_getElem h, List.getElem_mem h⟩

/-- Codes have characters, as many as there are codes. -/
theorem charsOfCodes_isSome (codes : List (BitVec 6)) :
    ∃ t, charsOfCodes codes = some t ∧ t.length = codes.length ∧ ∀ c ∈ t, c ∈ charset := by
  induction codes with
  | nil => exact ⟨[], rfl, rfl, by simp⟩
  | cons c cs ih =>
    obtain ⟨x, hx, hm⟩ := readCharset_isSome c
    obtain ⟨xs, hxs, hl, hms⟩ := ih
    refine ⟨x :: xs, by simp [charsOfCodes, hx, hxs], by simp [hl], ?_⟩
    rintro y (_ | ⟨_, hy⟩)
    · exact hm
    · exact hms y hy

/-- A frame of at least 11 bytes has its callsign codes. -/
theorem callsignCodes_isSome {fb : List Byte} (h : 11 ≤ fb.length) {n : Nat} (hn : n ≤ 8) :
    ∃ cs, callsignCodes fb n = some cs ∧ cs.length = n := by
  induction n with
  | zero => exact ⟨_, rfl, rfl⟩
  | succ k ih =>
    obtain ⟨cs, hcs, hl⟩ := ih (by omega)
    obtain ⟨c, hc⟩ := bitField_isSome (fb := fb) (a := 40 + 6 * k) (n := 6) (by omega)
    exact ⟨cs ++ [c], by simp [callsignCodes, hcs, hc], by simp [hl]⟩

end Sys2Proof.Laws
end

