-- ==== Sys2Proof/Laws/PerInstr.lean ====
section
/-! SUPPORT. Per-instruction facts about the syntax. Family LengthCorrect: the frame an instruction stands for is
well-formed, that is, its byte count is the one its type asks for (40_crc.md R80, 41_extract.md R100), and its type
field is the one of its row. -/

namespace Sys2Proof.Laws.LengthCorrect

/-- The frame of `i` is length-correct and carries the type of `i`'s row. -/
def Statement (i : Instr) : Prop :=
  frameWellFormed (encode i) = true ∧ typeBits ((encode i).headD 0) = i.df

/-- A short frame of a short type is length-correct. -/
theorem shortFrame_statement (df : BitVec 5) (fs : BitVec 3) (icao crc : BitVec 24) (h : lenByType df = 56) :
    frameWellFormed (shortFrame df fs icao crc) = true ∧ typeBits ((shortFrame df fs icao crc).headD 0) = df := by
  simp [frameWellFormed, frameNonempty, frameLengthCorrect, shortFrame, typeBits_append, h]

/-- A long frame of a long type is length-correct. -/
theorem longFrame_statement (df : BitVec 5) (fs : BitVec 3) (icao : BitVec 24) (b4 : Byte) (body : BitVec 48)
    (crc : BitVec 24) (h : lenByType df = 112) :
    frameWellFormed (longFrame df fs icao b4 body crc) = true ∧
      typeBits ((longFrame df fs icao b4 body crc).headD 0) = df := by
  simp [frameWellFormed, frameNonempty, frameLengthCorrect, longFrame, typeBits_append, h]

theorem alt13Df0 (fs : BitVec 3) (icao crc : BitVec 24) : Statement (.alt13Df0 fs icao crc) :=
  shortFrame_statement _ _ _ _ (by decide)

theorem minDf1 (fs : BitVec 3) (icao crc : BitVec 24) : Statement (.minDf1 fs icao crc) :=
  shortFrame_statement _ _ _ _ (by decide)

theorem minDf2 (fs : BitVec 3) (icao crc : BitVec 24) : Statement (.minDf2 fs icao crc) :=
  shortFrame_statement _ _ _ _ (by decide)

theorem minDf3 (fs : BitVec 3) (icao crc : BitVec 24) : Statement (.minDf3 fs icao crc) :=
  shortFrame_statement _ _ _ _ (by decide)

theorem alt13Df4 (fs : BitVec 3) (icao crc : BitVec 24) : Statement (.alt13Df4 fs icao crc) :=
  shortFrame_statement _ _ _ _ (by decide)

theorem minDf5 (fs : BitVec 3) (icao crc : BitVec 24) : Statement (.minDf5 fs icao crc) :=
  shortFrame_statement _ _ _ _ (by decide)

theorem minDf6 (fs : BitVec 3) (icao crc : BitVec 24) : Statement (.minDf6 fs icao crc) :=
  shortFrame_statement _ _ _ _ (by decide)

theorem minDf7 (fs : BitVec 3) (icao crc : BitVec 24) : Statement (.minDf7 fs icao crc) :=
  shortFrame_statement _ _ _ _ (by decide)

theorem minDf8 (fs : BitVec 3) (icao crc : BitVec 24) : Statement (.minDf8 fs icao crc) :=
  shortFrame_statement _ _ _ _ (by decide)

theorem minDf9 (fs : BitVec 3) (icao crc : BitVec 24) : Statement (.minDf9 fs icao crc) :=
  shortFrame_statement _ _ _ _ (by decide)

theorem minDf10 (fs : BitVec 3) (icao crc : BitVec 24) : Statement (.minDf10 fs icao crc) :=
  shortFrame_statement _ _ _ _ (by decide)

theorem minDf11 (fs : BitVec 3) (icao crc : BitVec 24) : Statement (.minDf11 fs icao crc) :=
  shortFrame_statement _ _ _ _ (by decide)

theorem minDf12 (fs : BitVec 3) (icao crc : BitVec 24) : Statement (.minDf12 fs icao crc) :=
  shortFrame_statement _ _ _ _ (by decide)

theorem minDf13 (fs : BitVec 3) (icao crc : BitVec 24) : Statement (.minDf13 fs icao crc) :=
  shortFrame_statement _ _ _ _ (by decide)

theorem minDf14 (fs : BitVec 3) (icao crc : BitVec 24) : Statement (.minDf14 fs icao crc) :=
  shortFrame_statement _ _ _ _ (by decide)

theorem minDf15 (fs : BitVec 3) (icao crc : BitVec 24) : Statement (.minDf15 fs icao crc) :=
  shortFrame_statement _ _ _ _ (by decide)

theorem alt13Df16 (fs : BitVec 3) (icao : BitVec 24) (me : BitVec 56) (crc : BitVec 24) : Statement (.alt13Df16 fs icao me crc) :=
  longFrame_statement _ _ _ _ _ _ (by decide)

theorem minDf18 (fs : BitVec 3) (icao crc : BitVec 24) : Statement (.minDf18 fs icao crc) :=
  shortFrame_statement _ _ _ _ (by decide)

theorem minDf19 (fs : BitVec 3) (icao : BitVec 24) (me : BitVec 56) (crc : BitVec 24) : Statement (.minDf19 fs icao me crc) :=
  longFrame_statement _ _ _ _ _ _ (by decide)

theorem alt13Df20 (fs : BitVec 3) (icao : BitVec 24) (me : BitVec 56) (crc : BitVec 24) : Statement (.alt13Df20 fs icao me crc) :=
  longFrame_statement _ _ _ _ _ _ (by decide)

theorem minDf21 (fs : BitVec 3) (icao : BitVec 24) (me : BitVec 56) (crc : BitVec 24) : Statement (.minDf21 fs icao me crc) :=
  longFrame_statement _ _ _ _ _ _ (by decide)

theorem minDf22 (fs : BitVec 3) (icao crc : BitVec 24) : Statement (.minDf22 fs icao crc) :=
  shortFrame_statement _ _ _ _ (by decide)

theorem minDf23 (fs : BitVec 3) (icao crc : BitVec 24) : Statement (.minDf23 fs icao crc) :=
  shortFrame_statement _ _ _ _ (by decide)

theorem minDf24 (fs : BitVec 3) (icao crc : BitVec 24) : Statement (.minDf24 fs icao crc) :=
  shortFrame_statement _ _ _ _ (by decide)

theorem minDf25 (fs : BitVec 3) (icao crc : BitVec 24) : Statement (.minDf25 fs icao crc) :=
  shortFrame_statement _ _ _ _ (by decide)

theorem minDf26 (fs : BitVec 3) (icao crc : BitVec 24) : Statement (.minDf26 fs icao crc) :=
  shortFrame_statement _ _ _ _ (by decide)

theorem minDf27 (fs : BitVec 3) (icao crc : BitVec 24) : Statement (.minDf27 fs icao crc) :=
  shortFrame_statement _ _ _ _ (by decide)

theorem minDf28 (fs : BitVec 3) (icao crc : BitVec 24) : Statement (.minDf28 fs icao crc) :=
  shortFrame_statement _ _ _ _ (by decide)

theorem minDf29 (fs : BitVec 3) (icao crc : BitVec 24) : Statement (.minDf29 fs icao crc) :=
  shortFrame_statement _ _ _ _ (by decide)

theorem minDf30 (fs : BitVec 3) (icao crc : BitVec 24) : Statement (.minDf30 fs icao crc) :=
  shortFrame_statement _ _ _ _ (by decide)

theorem minDf31 (fs : BitVec 3) (icao crc : BitVec 24) : Statement (.minDf31 fs icao crc) :=
  shortFrame_statement _ _ _ _ (by decide)

theorem minDf17Tc0 (fs : BitVec 3) (icao : BitVec 24) (st : BitVec 3) (body : BitVec 48) (crc : BitVec 24) : Statement (.minDf17Tc0 fs icao st body crc) :=
  longFrame_statement _ _ _ _ _ _ (by decide)

theorem identTc1 (fs : BitVec 3) (icao : BitVec 24) (st : BitVec 3) (body : BitVec 48) (crc : BitVec 24) : Statement (.identTc1 fs icao st body crc) :=
  longFrame_statement _ _ _ _ _ _ (by decide)

theorem identTc2 (fs : BitVec 3) (icao : BitVec 24) (st : BitVec 3) (body : BitVec 48) (crc : BitVec 24) : Statement (.identTc2 fs icao st body crc) :=
  longFrame_statement _ _ _ _ _ _ (by decide)

theorem identTc3 (fs : BitVec 3) (icao : BitVec 24) (st : BitVec 3) (body : BitVec 48) (crc : BitVec 24) : Statement (.identTc3 fs icao st body crc) :=
  longFrame_statement _ _ _ _ _ _ (by decide)

theorem identTc4 (fs : BitVec 3) (icao : BitVec 24) (st : BitVec 3) (body : BitVec 48) (crc : BitVec 24) : Statement (.identTc4 fs icao st body crc) :=
  longFrame_statement _ _ _ _ _ _ (by decide)

theorem minDf17Tc5 (fs : BitVec 3) (icao : BitVec 24) (st : BitVec 3) (body : BitVec 48) (crc : BitVec 24) : Statement (.minDf17Tc5 fs icao st body crc) :=
  longFrame_statement _ _ _ _ _ _ (by decide)

theorem minDf17Tc6 (fs : BitVec 3) (icao : BitVec 24) (st : BitVec 3) (body : BitVec 48) (crc : BitVec 24) : Statement (.minDf17Tc6 fs icao st body crc) :=
  longFrame_statement _ _ _ _ _ _ (by decide)

theorem minDf17Tc7 (fs : BitVec 3) (icao : BitVec 24) (st : BitVec 3) (body : BitVec 48) (crc : BitVec 24) : Statement (.minDf17Tc7 fs icao st body crc) :=
  longFrame_statement _ _ _ _ _ _ (by decide)

theorem minDf17Tc8 (fs : BitVec 3) (icao : BitVec 24) (st : BitVec 3) (body : BitVec 48) (crc : BitVec 24) : Statement (.minDf17Tc8 fs icao st body crc) :=
  longFrame_statement _ _ _ _ _ _ (by decide)

theorem minDf17Tc9 (fs : BitVec 3) (icao : BitVec 24) (st : BitVec 3) (body : BitVec 48) (crc : BitVec 24) : Statement (.minDf17Tc9 fs icao st body crc) :=
  longFrame_statement _ _ _ _ _ _ (by decide)

theorem minDf17Tc10 (fs : BitVec 3) (icao : BitVec 24) (st : BitVec 3) (body : BitVec 48) (crc : BitVec 24) : Statement (.minDf17Tc10 fs icao st body crc) :=
  longFrame_statement _ _ _ _ _ _ (by decide)

theorem minDf17Tc11 (fs : BitVec 3) (icao : BitVec 24) (st : BitVec 3) (body : BitVec 48) (crc : BitVec 24) : Statement (.minDf17Tc11 fs icao st body crc) :=
  longFrame_statement _ _ _ _ _ _ (by decide)

theorem minDf17Tc12 (fs : BitVec 3) (icao : BitVec 24) (st : BitVec 3) (body : BitVec 48) (crc : BitVec 24) : Statement (.minDf17Tc12 fs icao st body crc) :=
  longFrame_statement _ _ _ _ _ _ (by decide)

theorem minDf17Tc13 (fs : BitVec 3) (icao : BitVec 24) (st : BitVec 3) (body : BitVec 48) (crc : BitVec 24) : Statement (.minDf17Tc13 fs icao st body crc) :=
  longFrame_statement _ _ _ _ _ _ (by decide)

theorem minDf17Tc14 (fs : BitVec 3) (icao : BitVec 24) (st : BitVec 3) (body : BitVec 48) (crc : BitVec 24) : Statement (.minDf17Tc14 fs icao st body crc) :=
  longFrame_statement _ _ _ _ _ _ (by decide)

theorem minDf17Tc15 (fs : BitVec 3) (icao : BitVec 24) (st : BitVec 3) (body : BitVec 48) (crc : BitVec 24) : Statement (.minDf17Tc15 fs icao st body crc) :=
  longFrame_statement _ _ _ _ _ _ (by decide)

theorem minDf17Tc16 (fs : BitVec 3) (icao : BitVec 24) (st : BitVec 3) (body : BitVec 48) (crc : BitVec 24) : Statement (.minDf17Tc16 fs icao st body crc) :=
  longFrame_statement _ _ _ _ _ _ (by decide)

theorem minDf17Tc17 (fs : BitVec 3) (icao : BitVec 24) (st : BitVec 3) (body : BitVec 48) (crc : BitVec 24) : Statement (.minDf17Tc17 fs icao st body crc) :=
  longFrame_statement _ _ _ _ _ _ (by decide)

theorem minDf17Tc18 (fs : BitVec 3) (icao : BitVec 24) (st : BitVec 3) (body : BitVec 48) (crc : BitVec 24) : Statement (.minDf17Tc18 fs icao st body crc) :=
  longFrame_statement _ _ _ _ _ _ (by decide)

theorem minDf17Tc20 (fs : BitVec 3) (icao : BitVec 24) (st : BitVec 3) (body : BitVec 48) (crc : BitVec 24) : Statement (.minDf17Tc20 fs icao st body crc) :=
  longFrame_statement _ _ _ _ _ _ (by decide)

theorem minDf17Tc21 (fs : BitVec 3) (icao : BitVec 24) (st : BitVec 3) (body : BitVec 48) (crc : BitVec 24) : Statement (.minDf17Tc21 fs icao st body crc) :=
  longFrame_statement _ _ _ _ _ _ (by decide)

theorem minDf17Tc22 (fs : BitVec 3) (icao : BitVec 24) (st : BitVec 3) (body : BitVec 48) (crc : BitVec 24) : Statement (.minDf17Tc22 fs icao st body crc) :=
  longFrame_statement _ _ _ _ _ _ (by decide)

theorem minDf17Tc23 (fs : BitVec 3) (icao : BitVec 24) (st : BitVec 3) (body : BitVec 48) (crc : BitVec 24) : Statement (.minDf17Tc23 fs icao st body crc) :=
  longFrame_statement _ _ _ _ _ _ (by decide)

theorem minDf17Tc24 (fs : BitVec 3) (icao : BitVec 24) (st : BitVec 3) (body : BitVec 48) (crc : BitVec 24) : Statement (.minDf17Tc24 fs icao st body crc) :=
  longFrame_statement _ _ _ _ _ _ (by decide)

theorem minDf17Tc25 (fs : BitVec 3) (icao : BitVec 24) (st : BitVec 3) (body : BitVec 48) (crc : BitVec 24) : Statement (.minDf17Tc25 fs icao st body crc) :=
  longFrame_statement _ _ _ _ _ _ (by decide)

theorem minDf17Tc26 (fs : BitVec 3) (icao : BitVec 24) (st : BitVec 3) (body : BitVec 48) (crc : BitVec 24) : Statement (.minDf17Tc26 fs icao st body crc) :=
  longFrame_statement _ _ _ _ _ _ (by decide)

theorem minDf17Tc27 (fs : BitVec 3) (icao : BitVec 24) (st : BitVec 3) (body : BitVec 48) (crc : BitVec 24) : Statement (.minDf17Tc27 fs icao st body crc) :=
  longFrame_statement _ _ _ _ _ _ (by decide)

theorem minDf17Tc28 (fs : BitVec 3) (icao : BitVec 24) (st : BitVec 3) (body : BitVec 48) (crc : BitVec 24) : Statement (.minDf17Tc28 fs icao st body crc) :=
  longFrame_statement _ _ _ _ _ _ (by decide)

theorem minDf17Tc29 (fs : BitVec 3) (icao : BitVec 24) (st : BitVec 3) (body : BitVec 48) (crc : BitVec 24) : Statement (.minDf17Tc29 fs icao st body crc) :=
  longFrame_statement _ _ _ _ _ _ (by decide)

theorem minDf17Tc30 (fs : BitVec 3) (icao : BitVec 24) (st : BitVec 3) (body : BitVec 48) (crc : BitVec 24) : Statement (.minDf17Tc30 fs icao st body crc) :=
  longFrame_statement _ _ _ _ _ _ (by decide)

theorem minDf17Tc31 (fs : BitVec 3) (icao : BitVec 24) (st : BitVec 3) (body : BitVec 48) (crc : BitVec 24) : Statement (.minDf17Tc31 fs icao st body crc) :=
  longFrame_statement _ _ _ _ _ _ (by decide)

theorem minDf17Tc19St0 (fs : BitVec 3) (icao : BitVec 24) (body : BitVec 48) (crc : BitVec 24) : Statement (.minDf17Tc19St0 fs icao body crc) :=
  longFrame_statement _ _ _ _ _ _ (by decide)

theorem posvelSt1 (fs : BitVec 3) (icao : BitVec 24) (body : BitVec 48) (crc : BitVec 24) : Statement (.posvelSt1 fs icao body crc) :=
  longFrame_statement _ _ _ _ _ _ (by decide)

theorem posvelSt2 (fs : BitVec 3) (icao : BitVec 24) (body : BitVec 48) (crc : BitVec 24) : Statement (.posvelSt2 fs icao body crc) :=
  longFrame_statement _ _ _ _ _ _ (by decide)

theorem posSt3 (fs : BitVec 3) (icao : BitVec 24) (body : BitVec 48) (crc : BitVec 24) : Statement (.posSt3 fs icao body crc) :=
  longFrame_statement _ _ _ _ _ _ (by decide)

theorem posSt4 (fs : BitVec 3) (icao : BitVec 24) (body : BitVec 48) (crc : BitVec 24) : Statement (.posSt4 fs icao body crc) :=
  longFrame_statement _ _ _ _ _ _ (by decide)

theorem minDf17Tc19St5 (fs : BitVec 3) (icao : BitVec 24) (body : BitVec 48) (crc : BitVec 24) : Statement (.minDf17Tc19St5 fs icao body crc) :=
  longFrame_statement _ _ _ _ _ _ (by decide)

theorem minDf17Tc19St6 (fs : BitVec 3) (icao : BitVec 24) (body : BitVec 48) (crc : BitVec 24) : Statement (.minDf17Tc19St6 fs icao body crc) :=
  longFrame_statement _ _ _ _ _ _ (by decide)

theorem minDf17Tc19St7 (fs : BitVec 3) (icao : BitVec 24) (body : BitVec 48) (crc : BitVec 24) : Statement (.minDf17Tc19St7 fs icao body crc) :=
  longFrame_statement _ _ _ _ _ _ (by decide)

end Sys2Proof.Laws.LengthCorrect
end

