-- ==== Sys2Proof/Laws/State.lean ====
section
/-! SUPPORT. One lemma per field per update of the state, each true by rfl, and the updates as the record updates of
Safety.lean. -/

namespace Sys2Proof.Laws

open Sys2Proof.Machine

@[simp] theorem openTransaction_seenValid (s : State) (fb : List Byte) : (s.openTransaction fb).seenValid = s.seenValid := rfl
@[simp] theorem openTransaction_latch (s : State) (fb : List Byte) : (s.openTransaction fb).latch = some fb := rfl
@[simp] theorem openTransaction_boot (s : State) (fb : List Byte) : (s.openTransaction fb).boot = s.boot := rfl
@[simp] theorem openTransaction_registry (s : State) (fb : List Byte) : (s.openTransaction fb).registry = s.registry := rfl
@[simp] theorem openTransaction_hostInput (s : State) (fb : List Byte) : (s.openTransaction fb).hostInput = s.hostInput := rfl
@[simp] theorem openTransaction_portLog (s : State) (fb : List Byte) : (s.openTransaction fb).portLog = s.portLog := rfl

@[simp] theorem closeTransaction_seenValid (s : State) : (s.closeTransaction).seenValid = s.seenValid := rfl
@[simp] theorem closeTransaction_latch (s : State) : (s.closeTransaction).latch = none := rfl
@[simp] theorem closeTransaction_boot (s : State) : (s.closeTransaction).boot = s.boot := rfl
@[simp] theorem closeTransaction_registry (s : State) : (s.closeTransaction).registry = s.registry := rfl
@[simp] theorem closeTransaction_hostInput (s : State) : (s.closeTransaction).hostInput = s.hostInput := rfl
@[simp] theorem closeTransaction_portLog (s : State) : (s.closeTransaction).portLog = s.portLog := rfl

@[simp] theorem emit_seenValid (s : State) (es : List PortEvent) : (s.emit es).seenValid = s.seenValid := rfl
@[simp] theorem emit_latch (s : State) (es : List PortEvent) : (s.emit es).latch = s.latch := rfl
@[simp] theorem emit_boot (s : State) (es : List PortEvent) : (s.emit es).boot = s.boot := rfl
@[simp] theorem emit_registry (s : State) (es : List PortEvent) : (s.emit es).registry = s.registry := rfl
@[simp] theorem emit_hostInput (s : State) (es : List PortEvent) : (s.emit es).hostInput = s.hostInput := rfl
@[simp] theorem emit_portLog (s : State) (es : List PortEvent) : (s.emit es).portLog = s.portLog ++ es := rfl

@[simp] theorem raise_seenValid (s : State) (o : TxOutcome) : (s.raise o).seenValid = s.seenValid := rfl
@[simp] theorem raise_latch (s : State) (o : TxOutcome) : (s.raise o).latch = none := rfl
@[simp] theorem raise_boot (s : State) (o : TxOutcome) : (s.raise o).boot = s.boot := rfl
@[simp] theorem raise_registry (s : State) (o : TxOutcome) : (s.raise o).registry = s.registry := rfl
@[simp] theorem raise_hostInput (s : State) (o : TxOutcome) : (s.raise o).hostInput = s.hostInput := rfl
@[simp] theorem raise_portLog (s : State) (o : TxOutcome) : (s.raise o).portLog = s.portLog ++ [.outcome o] := rfl

@[simp] theorem markSeenValid_seenValid (s : State) : (s.markSeenValid).seenValid = true := rfl
@[simp] theorem markSeenValid_latch (s : State) : (s.markSeenValid).latch = s.latch := rfl
@[simp] theorem markSeenValid_boot (s : State) : (s.markSeenValid).boot = s.boot := rfl
@[simp] theorem markSeenValid_registry (s : State) : (s.markSeenValid).registry = s.registry := rfl
@[simp] theorem markSeenValid_hostInput (s : State) : (s.markSeenValid).hostInput = s.hostInput := rfl
@[simp] theorem markSeenValid_portLog (s : State) : (s.markSeenValid).portLog = s.portLog := rfl

@[simp] theorem completeRecord_seenValid (s : State) (r : Record) : (s.completeRecord r).seenValid = true := rfl
@[simp] theorem completeRecord_latch (s : State) (r : Record) : (s.completeRecord r).latch = none := rfl
@[simp] theorem completeRecord_boot (s : State) (r : Record) : (s.completeRecord r).boot = s.boot := rfl
@[simp] theorem completeRecord_registry (s : State) (r : Record) : (s.completeRecord r).registry = s.registry := rfl
@[simp] theorem completeRecord_hostInput (s : State) (r : Record) : (s.completeRecord r).hostInput = s.hostInput := rfl
@[simp] theorem completeRecord_portLog (s : State) (r : Record) : (s.completeRecord r).portLog = s.portLog ++ [.regLookup r.icao r.registry, .outcome .record, .recordOut r] := rfl

@[simp] theorem takeReset_seenValid (s : State) : (s.takeReset).seenValid = false := rfl
@[simp] theorem takeReset_latch (s : State) : (s.takeReset).latch = none := rfl
@[simp] theorem takeReset_boot (s : State) : (s.takeReset).boot = (if s.boot = .awaitingRegistry then .awaitingRegistry else .running) := rfl
@[simp] theorem takeReset_registry (s : State) : (s.takeReset).registry = s.registry := rfl
@[simp] theorem takeReset_hostInput (s : State) : (s.takeReset).hostInput = s.hostInput := rfl
@[simp] theorem takeReset_portLog (s : State) : (s.takeReset).portLog = s.portLog := rfl

@[simp] theorem withFetchWord_seenValid (s : State) (nbits w : Nat) : (s.withFetchWord nbits w).seenValid = s.seenValid := rfl
@[simp] theorem withFetchWord_latch (s : State) (nbits w : Nat) : (s.withFetchWord nbits w).latch = s.latch := rfl
@[simp] theorem withFetchWord_boot (s : State) (nbits w : Nat) : (s.withFetchWord nbits w).boot = .running := rfl
@[simp] theorem withFetchWord_registry (s : State) (nbits w : Nat) : (s.withFetchWord nbits w).registry = s.registry := rfl
@[simp] theorem withFetchWord_hostInput (s : State) (nbits w : Nat) : (s.withFetchWord nbits w).hostInput = .frameIn (tableFrame nbits w) :: s.hostInput := rfl
@[simp] theorem withFetchWord_portLog (s : State) (nbits w : Nat) : (s.withFetchWord nbits w).portLog = s.portLog := rfl

/-- Reading the latch just after loading it gives what was loaded. -/
@[simp] theorem openTransaction_frame (s : State) (fb : List Byte) : (s.openTransaction fb).frame = fb := rfl

/-- Loading the latch twice is loading it once. -/
@[simp] theorem openTransaction_twice (s : State) (fb fb' : List Byte) :
    (s.openTransaction fb).openTransaction fb' = s.openTransaction fb' := rfl

/-- Completing a transaction, as one record update of the state before it. -/
@[simp] theorem completeRecord_openTransaction (s : State) (fb : List Byte) (r : Record) :
    (s.openTransaction fb).completeRecord r = s.afterRecord r := rfl

/-- Dropping a frame, as one record update of the state before it. -/
@[simp] theorem raise_openTransaction (s : State) (fb : List Byte) (o : TxOutcome) :
    (s.openTransaction fb).raise o = s.afterDrop o := rfl

@[simp] theorem own_seenValid (s : State) : s.own.seenValid = s.seenValid := rfl
@[simp] theorem own_latch (s : State) : s.own.latch = s.latch := rfl
@[simp] theorem own_boot (s : State) : s.own.boot = s.boot := rfl
@[simp] theorem own_hostInput (s : State) : s.own.hostInput = s.hostInput := rfl
@[simp] theorem own_portLog (s : State) : s.own.portLog = s.portLog := rfl

@[simp] theorem withRegistry_seenValid (c : Instance) (reg : Registry) : (c.withRegistry reg).seenValid = c.seenValid := rfl
@[simp] theorem withRegistry_latch (c : Instance) (reg : Registry) : (c.withRegistry reg).latch = c.latch := rfl
@[simp] theorem withRegistry_boot (c : Instance) (reg : Registry) : (c.withRegistry reg).boot = c.boot := rfl
@[simp] theorem withRegistry_registry (c : Instance) (reg : Registry) : (c.withRegistry reg).registry = reg := rfl
@[simp] theorem withRegistry_hostInput (c : Instance) (reg : Registry) : (c.withRegistry reg).hostInput = c.hostInput := rfl
@[simp] theorem withRegistry_portLog (c : Instance) (reg : Registry) : (c.withRegistry reg).portLog = c.portLog := rfl

/-- The own part of an instance that sees a registry is the instance. -/
@[simp] theorem withRegistry_own (c : Instance) (reg : Registry) : (c.withRegistry reg).own = c := rfl

/-- A state is its own part and its registry. -/
@[simp] theorem own_withRegistry (s : State) : s.own.withRegistry s.registry = s := rfl

end Sys2Proof.Laws
end

