-- ==== Sys2Proof/Laws/Record.lean ====
section
/-! SUPPORT. What a record transaction and the execution of an instruction can do. -/

namespace Sys2Proof.Laws

open Sys2Proof.Machine

/-- Everything a record transaction can do when it answers a next state: a valid frame completes with the assembled
record, or a mismatched one is dropped. -/
theorem recordTransaction_next {fields : List Byte → Record → Option Record} {s t : State}
    (h : recordTransaction fields s = .next t) :
    (∃ r, frameVerdict s.frame = some .valid ∧ assembleRecord fields s.registry s.frame = some r ∧
      t = s.completeRecord r) ∨
    ∃ c e, frameVerdict s.frame = some (.mismatch c e) ∧ t = s.raise (.checksumMismatch c e) := by
  unfold recordTransaction at h
  split at h
  · rename_i hv
    split at h
    · rename_i r hr
      exact .inl ⟨r, hv, hr, (Host.Outcome.next.inj h).symm⟩
    · cases h
  · rename_i c e hv
    exact .inr ⟨c, e, hv, (Host.Outcome.next.inj h).symm⟩
  · cases h

/-- A record transaction of a valid frame whose record can be assembled completes. -/
theorem recordTransaction_valid {fields : List Byte → Record → Option Record} {s : State} {r : Record}
    (hv : frameVerdict s.frame = some .valid) (hr : assembleRecord fields s.registry s.frame = some r) :
    recordTransaction fields s = .next (s.completeRecord r) := by
  simp [recordTransaction, hv, hr]

/-- A record transaction of a mismatched frame drops it. -/
theorem recordTransaction_mismatch {fields : List Byte → Record → Option Record} {s : State} {c e : BitVec 24}
    (hv : frameVerdict s.frame = some (.mismatch c e)) :
    recordTransaction fields s = .next (s.raise (.checksumMismatch c e)) := by
  simp [recordTransaction, hv]

/-- Executing an instruction is the record transaction of its class on its own frame. -/
theorem exec_eq (i : Instr) (s : State) :
    exec i s = recordTransaction (classFields i.cls) (s.openTransaction (encode i)) := by
  cases i <;> rfl

/-- A record assembled from a frame starts as the base record with the registry's answer. -/
theorem assembleRecord_eq {fields : List Byte → Record → Option Record} {reg : Registry} {fb : List Byte}
    {a : BitVec 24} (h : icaoAddress fb = some a) :
    assembleRecord fields reg fb = fields fb (minimalRecord reg a) := by
  simp [assembleRecord, baseRecord, h, registryMerge, minimalRecord]

/-- The frame of an instruction is length-correct. -/
theorem encode_length (i : Instr) : 8 * (encode i).length = lenByType i.df := by
  cases i <;> rfl

/-- The frame of an instruction carries its type. -/
theorem frameType_encode (i : Instr) : frameType (encode i) = some i.df := by
  cases i <;> exact congrArg some (typeBits_append _ _)

/-- Three bytes of the frame, read as one big-endian integer (20_memory.md R43). -/
theorem memRead_three {fb : List Byte} {k : Nat} {b0 b1 b2 : Byte} (h0 : byteAt fb k = some b0)
    (h1 : byteAt fb (k + 1) = some b1) (h2 : byteAt fb (k + 2) = some b2) :
    memRead fb k 3 = some (b0 ++ b1 ++ b2) := by
  have h0' : byteAt fb (k + 0) = some b0 := h0
  simp only [memRead, h0', h1, h2]
  refine congrArg some (BitVec.eq_of_toNat_eq ?_)
  have e : (0#0 ++ b0 ++ b1 ++ b2 : BitVec (0 + 8 + 8 + 8)).toNat = (b0 ++ b1 ++ b2 : BitVec (8 + 8 + 8)).toNat := by
    simp only [BitVec.toNat_append]
    simp
  exact e

/-- A short frame carries its ICAO address. -/
theorem icaoAddress_shortFrame (df : BitVec 5) (fs : BitVec 3) (icao crc : BitVec 24) :
    icaoAddress (shortFrame df fs icao crc) = some icao :=
  (memRead_three (k := 1) rfl rfl rfl).trans (congrArg some (append_bytes_24 icao))

/-- A long frame carries its ICAO address. -/
theorem icaoAddress_longFrame (df : BitVec 5) (fs : BitVec 3) (icao : BitVec 24) (b4 : Byte) (body : BitVec 48)
    (crc : BitVec 24) : icaoAddress (longFrame df fs icao b4 body crc) = some icao :=
  (memRead_three (k := 1) rfl rfl rfl).trans (congrArg some (append_bytes_24 icao))

/-- A short frame carries its embedded checksum in its last three bytes. -/
theorem embeddedCrc_shortFrame (df : BitVec 5) (fs : BitVec 3) (icao crc : BitVec 24) (h : lenByType df = 56) :
    embeddedCrc (shortFrame df fs icao crc) (lenByType df) = some crc :=
  h ▸ (memRead_three (k := 4) rfl rfl rfl).trans (congrArg some (append_bytes_24 crc))

/-- A long frame carries its embedded checksum in its last three bytes. -/
theorem embeddedCrc_longFrame (df : BitVec 5) (fs : BitVec 3) (icao : BitVec 24) (b4 : Byte) (body : BitVec 48)
    (crc : BitVec 24) (h : lenByType df = 112) :
    embeddedCrc (longFrame df fs icao b4 body crc) (lenByType df) = some crc :=
  h ▸ (memRead_three (k := 11) rfl rfl rfl).trans (congrArg some (append_bytes_24 crc))

/-- The ICAO address of an instruction's frame is its operand. -/
theorem icaoAddress_encode (i : Instr) : icaoAddress (encode i) = some i.icao := by
  cases i <;> simp only [encode, Instr.icao, icaoAddress_shortFrame, icaoAddress_longFrame]

/-- The embedded checksum of an instruction's frame is its operand. -/
theorem embeddedCrc_encode (i : Instr) : embeddedCrc (encode i) (lenByType i.df) = some i.crc := by
  cases i <;> simp (disch := decide) only [encode, Instr.crc, Instr.df, embeddedCrc_shortFrame, embeddedCrc_longFrame]

/-- The verdict on an instruction's frame compares the computed checksum with its operand (40_crc.md R84). -/
theorem frameVerdict_encode {i : Instr} {c : BitVec 24} (h : computeCrc (encode i) (lenByType i.df) = some c) :
    frameVerdict (encode i) = some (if c = i.crc then .valid else .mismatch c i.crc) := by
  simp [frameVerdict, frameType_encode, crcVerdict, h, embeddedCrc_encode]

end Sys2Proof.Laws
end

