-- ==== Sys2Proof/Laws/Fields.lean ====
section
/-! SUPPORT. The class fields, given the values of the extractors they read, and that they exist on every frame of their
class. -/

namespace Sys2Proof.Laws

open Sys2Proof.Machine

/-- ALT13 writes the altitude. -/
theorem alt13Fields_of {fb : List Byte} {r : Record} {a : BitVec 32} (h : alt13 fb = some a) :
    alt13Fields fb r = some { r with altitude := some a } := by
  unfold alt13Fields
  rw [h]

/-- IDENT writes the callsign. -/
theorem identFields_of {fb : List Byte} {r : Record} {c : Text} (h : callsign fb = some c) :
    identFields fb r = some { r with callsign := some c } := by
  unfold identFields
  rw [h]

/-- POSVEL writes position, altitude and velocity. -/
theorem posvelFields_of {fb : List Byte} {r : Record} {p : RawPosition} {a : BitVec 32} {v : Int × Int}
    (hp : rawPosition fb = some p) (ha : alt12 fb = some a) (hv : velocityComponents fb = some v) :
    posvelFields fb r = some { r with
      position := some p
      altitude := some a
      velocity := some ⟨speedOfComponents v.1 v.2, Config.headingDeg v.1 v.2⟩ } := by
  unfold posvelFields speed heading
  rw [hp, ha, hv]
  rfl

/-- POS writes position and altitude. -/
theorem posFields_of {fb : List Byte} {r : Record} {p : RawPosition} {a : BitVec 32}
    (hp : rawPosition fb = some p) (ha : alt12 fb = some a) :
    posFields fb r = some { r with position := some p, altitude := some a } := by
  unfold posFields
  rw [hp, ha]

/-- A frame of at least 11 bytes has a callsign. -/
theorem callsign_isSome {fb : List Byte} (h : 11 ≤ fb.length) : ∃ t, callsign fb = some t := by
  obtain ⟨cs, hcs, -⟩ := callsignCodes_isSome h (n := 8) le_rfl
  obtain ⟨t, ht, -⟩ := charsOfCodes_isSome cs
  refine ⟨trimTrailingSpaces t, ?_⟩
  unfold callsign
  rw [hcs]
  exact congrArg (Option.map trimTrailingSpaces) ht

/-- A frame of at least 4 bytes has a 13-bit altitude. -/
theorem alt13_isSome {fb : List Byte} (h : 4 ≤ fb.length) : ∃ a, alt13 fb = some a := by
  obtain ⟨b2, h2⟩ := byteAt_isSome (fb := fb) (k := 2) (by omega)
  obtain ⟨b3, h3⟩ := byteAt_isSome (fb := fb) (k := 3) (by omega)
  unfold alt13
  rw [h2, h3]
  dsimp only
  split <;> exact ⟨_, rfl⟩

/-- A frame of at least 7 bytes has a 12-bit altitude. -/
theorem alt12_isSome {fb : List Byte} (h : 7 ≤ fb.length) : ∃ a, alt12 fb = some a := by
  obtain ⟨b5, h5⟩ := byteAt_isSome (fb := fb) (k := 5) (by omega)
  obtain ⟨b6, h6⟩ := byteAt_isSome (fb := fb) (k := 6) (by omega)
  unfold alt12
  rw [h5, h6]
  dsimp only
  split <;> exact ⟨_, rfl⟩

/-- A frame of at least 11 bytes has a raw position. -/
theorem rawPosition_isSome {fb : List Byte} (h : 11 ≤ fb.length) : ∃ p, rawPosition fb = some p := by
  obtain ⟨b6, h6⟩ := byteAt_isSome (fb := fb) (k := 6) (by omega)
  obtain ⟨b7, h7⟩ := byteAt_isSome (fb := fb) (k := 7) (by omega)
  obtain ⟨b8, h8⟩ := byteAt_isSome (fb := fb) (k := 8) (by omega)
  obtain ⟨b9, h9⟩ := byteAt_isSome (fb := fb) (k := 9) (by omega)
  obtain ⟨b10, h10⟩ := byteAt_isSome (fb := fb) (k := 10) (by omega)
  unfold rawPosition
  rw [h6, h7, h8, h9, h10]
  exact ⟨_, rfl⟩

/-- A frame of at least 9 bytes has velocity components. -/
theorem velocityComponents_isSome {fb : List Byte} (h : 9 ≤ fb.length) : ∃ v, velocityComponents fb = some v := by
  obtain ⟨b5, h5⟩ := byteAt_isSome (fb := fb) (k := 5) (by omega)
  obtain ⟨b6, h6⟩ := byteAt_isSome (fb := fb) (k := 6) (by omega)
  obtain ⟨b7, h7⟩ := byteAt_isSome (fb := fb) (k := 7) (by omega)
  obtain ⟨b8, h8⟩ := byteAt_isSome (fb := fb) (k := 8) (by omega)
  unfold velocityComponents
  rw [h5, h6, h7, h8]
  exact ⟨_, rfl⟩

/-- The class fields exist: 4 bytes suffice for ALT13 and MIN, 11 for the classes of type 17. -/
theorem classFields_isSome {c : DispatchClass} {fb : List Byte} (r : Record) (h : 4 ≤ fb.length)
    (h' : c = .ident ∨ c = .posvel ∨ c = .pos → 11 ≤ fb.length) : ∃ r', classFields c fb r = some r' := by
  cases c
  · obtain ⟨a, ha⟩ := alt13_isSome h
    exact ⟨_, alt13Fields_of ha⟩
  · obtain ⟨t, ht⟩ := callsign_isSome (h' (by simp))
    exact ⟨_, identFields_of ht⟩
  · have hl := h' (by simp)
    obtain ⟨p, hp⟩ := rawPosition_isSome hl
    obtain ⟨a, ha⟩ := alt12_isSome (fb := fb) (by omega)
    obtain ⟨v, hv⟩ := velocityComponents_isSome (fb := fb) (by omega)
    exact ⟨_, posvelFields_of hp ha hv⟩
  · have hl := h' (by simp)
    obtain ⟨p, hp⟩ := rawPosition_isSome hl
    obtain ⟨a, ha⟩ := alt12_isSome (fb := fb) (by omega)
    exact ⟨_, posFields_of hp ha⟩
  · exact ⟨r, rfl⟩

/-- The frame of an instruction is long enough for its class. -/
theorem encode_long_enough (i : Instr) :
    4 ≤ (encode i).length ∧ (i.cls = .ident ∨ i.cls = .posvel ∨ i.cls = .pos → 11 ≤ (encode i).length) := by
  constructor
  · have := encode_length i
    have := lenByType_cases i.df
    omega
  · cases i <;> simp [Instr.cls] <;> (show 11 ≤ 14; decide)

/-- HEADING_DEG meets laws H1, H3 and H4 (41_extract.md R112); H2 holds because it is a function. -/
theorem headingDeg_lawful (ew ns : Int) : HeadingLawsAt ew ns (Config.headingDeg ew ns) :=
  (Config.someHeading ⟨⟨headingCandidate, headingCandidate_lawful⟩⟩).lawful ew ns

/-- An instruction with a valid frame completes with the record of its class fields. -/
theorem exec_of_valid {i : Instr} {s : State} {r : Record} (h : CrcValid i)
    (hr : classFields i.cls (encode i) (minimalRecord s.registry i.icao) = some r) :
    exec i s = .next (s.afterRecord r) := by
  have hv : frameVerdict (encode i) = some .valid := by rw [frameVerdict_encode h, if_pos rfl]
  rw [exec_eq, recordTransaction_valid (r := r)]
  · rfl
  · rw [openTransaction_frame]; exact hv
  · rw [openTransaction_frame, assembleRecord_eq (icaoAddress_encode i)]; exact hr

end Sys2Proof.Laws
end

