-- ==== Sys2Proof/Laws/Step.lean ====
section
/-! SUPPORT. What a step does with the first host event, and what a frame transaction does with its bytes. -/

namespace Sys2Proof.Laws

open Sys2Proof.Machine

/-- A step takes the first event. -/
theorem step_cons {s : State} {e : HostEvent} {rest : List HostEvent} (h : s.hostInput = e :: rest) :
    step s = takeEvent e { s with hostInput := rest } := by
  unfold step
  rw [h]

/-- A frame first in line runs, on FRAME_IN and as a line. -/
theorem step_presentsFrame {s : State} {bytes : List Byte} {rest : List HostEvent} (h : PresentsFrame s bytes rest)
    (hb : s.boot = .running) : step s = runFrame bytes { s with hostInput := rest } := by
  rcases h with h | ⟨text, h, hf⟩
  · simp [step_cons h, takeEvent, acceptFrame, hb]
  · simp [step_cons h, takeEvent, acceptLine, hb, hf]

/-- A skipped line takes its turn and changes nothing else. -/
theorem step_skipped {s : State} {text : Text} {rest : List HostEvent} (h : s.hostInput = .line text :: rest)
    (hf : frontEnd text = .skip) (hb : s.boot = .running) : step s = .next { s with hostInput := rest } := by
  simp [step_cons h, takeEvent, acceptLine, hb, hf]

/-- A rejected line is dropped. -/
theorem step_badHex {s : State} {text : Text} {rest : List HostEvent} (h : s.hostInput = .line text :: rest)
    (hf : frontEnd text = .badHex) (hb : s.boot = .running) :
    step s = .next ({ s with hostInput := rest }.raise (.malformed .hex)) := by
  simp [step_cons h, takeEvent, acceptLine, hb, hf]

/-- Executing an instruction does not look at what the latch held: it presents its own frame. -/
theorem exec_openTransaction (i : Instr) (s : State) (fb : List Byte) : exec i (s.openTransaction fb) = exec i s := by
  rw [exec_eq, exec_eq]
  rfl

/-- A frame that decodes runs its instruction. -/
theorem runFrame_ok {bytes : List Byte} {i : Instr} (h : decode bytes = .ok i) (s : State) :
    runFrame bytes s = exec i s := by
  unfold runFrame
  simp only [openTransaction_frame, h]
  exact exec_openTransaction i s bytes

/-- A frame that does not decode is dropped as MALFORMED, in the two ways of 60_exceptions.md R171 that a frame can be. -/
theorem runFrame_error {bytes : List Byte} {e : DecodeError} (h : decode bytes = .error e) (s : State) :
    runFrame bytes s = .next (s.afterDrop (.malformed
      (match e with
        | .empty => .empty
        | .length nb expected => .length nb expected))) := by
  unfold runFrame
  simp only [openTransaction_frame, h]
  cases e <;> rfl

/-- The outputs of a step that appends `es` to the log are `es`. -/
theorem newOutputs_of {s t : State} {es : List PortEvent} (h : t.portLog = s.portLog ++ es) : newOutputs s t = es := by
  unfold newOutputs
  rw [h, List.drop_left]

end Sys2Proof.Laws
end

