-- ==== Sys2Proof/Laws/System.lean ====
section
/-! SUPPORT. What a move of the system can do: one lemma per move, cited instead of unfolding it. -/

namespace Sys2Proof.Laws

open Sys2Proof.Machine

/-- Everything a load can do when it answers a next state: every instance awaited the registry, and each goes on with it. -/
theorem loadRegistry_next {sys sys' : System} {loaded : Option Registry} (h : sys.loadRegistry loaded = .next sys') :
    (∀ c ∈ sys.cores, c.boot = .awaitingRegistry) ∧
    ∃ reg, loaded = some reg ∧
      sys' = { sys with registry := reg, cores := sys.cores.map fun c => { c with boot := .awaitingReset } } := by
  unfold System.loadRegistry at h
  split at h
  · rename_i hall
    split at h
    · exact ⟨by simpa using hall, _, rfl, (Host.Outcome.next.inj h).symm⟩
    · cases h
  · cases h

/-- Everything an advance can do when it answers a next state: the instance exists, presents no load of its own, steps as
it does alone with the shared registry, and its own part is put back. -/
theorem advance_next {sys sys' : System} {k : Nat} (h : sys.advance k = .next sys') :
    ∃ c t, sys.cores[k]? = some c ∧ c.presentsLoad = false ∧ step (c.withRegistry sys.registry) = .next t ∧
      sys' = { sys with cores := sys.cores.set k t.own } := by
  unfold System.advance at h
  split at h
  · cases h
  · rename_i c hc
    split at h
    · cases h
    · rename_i hp
      split at h
      · rename_i t ht
        exact ⟨c, t, hc, by simpa using hp, ht, (Host.Outcome.next.inj h).symm⟩
      · cases h
      · cases h

/-- Everything a delivery can do when it answers a next state: the next output of an existing instance reaches the boundary,
or there is none. -/
theorem deliver_next {sys sys' : System} {k : Nat} (h : sys.deliver k = .next sys') :
    ∃ c, sys.cores[k]? = some c ∧
      ((∃ e, c.portLog[(sys.outputsOf k).length]? = some e ∧ sys' = { sys with boundary := sys.boundary ++ [(k, e)] }) ∨
        (c.portLog[(sys.outputsOf k).length]? = none ∧ sys' = sys)) := by
  unfold System.deliver at h
  split at h
  · cases h
  · rename_i c hc
    split at h
    · rename_i e he
      exact ⟨c, hc, .inl ⟨e, he, (Host.Outcome.next.inj h).symm⟩⟩
    · rename_i he
      exact ⟨c, hc, .inr ⟨he, (Host.Outcome.next.inj h).symm⟩⟩

/-- An output at the boundary is one more output of its instance, and of no other. -/
theorem outputsOf_append (sys : System) (k j : Nat) (e : PortEvent) :
    ({ sys with boundary := sys.boundary ++ [(k, e)] } : System).outputsOf j =
      if k = j then sys.outputsOf j ++ [e] else sys.outputsOf j := by
  by_cases h : k = j <;> simp [System.outputsOf, List.filter_append, h]

/-- What an instance has delivered does not depend on anything but the boundary. -/
theorem outputsOf_congr {sys sys' : System} (h : sys'.boundary = sys.boundary) (k : Nat) :
    sys'.outputsOf k = sys.outputsOf k := by
  unfold System.outputsOf
  rw [h]

end Sys2Proof.Laws
end

