-- ==== Sys2Proof/Tests/Slice0.lean ====
section
/-! SUPPORT. Tests of one step each, their expected values taken from spec/95_test_vectors.md (the vector is named beside
each), smoke tests of WellFormed, decodings of words written out from 30_encoding.md, and for every statement with
hypotheses a witness that meets them. -/

-- One theorem at a time: each is evaluated by the kernel, and as many threads as there are tests need too much memory.
set_option Elab.async false

namespace Sys2Proof.Tests

open Sys2Proof.Machine Sys2Proof.Laws

/-! ### Helpers -/

/-- A running instance with an empty registry (the convention of 95_test_vectors.md), these events pending. -/
def waitingFor (events : List HostEvent) : State :=
  { State.reset with registry := .table [], hostInput := events }

/-- The next state a step answers, if it answers one. -/
def nextOf (o : Result) : Option State :=
  match o with
  | .next t => some t
  | .fault _ => none
  | .refused _ => none

/-- The fault a step answers, if it answers one. -/
def faultOf (o : Result) : Option Fault :=
  match o with
  | .next _ => none
  | .fault f => some f
  | .refused _ => none

/-- The record among the last output of a next state. -/
def recordOf (o : Result) : Option Record :=
  match (nextOf o).bind fun t => t.portLog.getLast? with
  | some (.recordOut r) => some r
  | _ => none

/-- The outcome that is the last output of a next state. -/
def outcomeOf (o : Result) : Option TxOutcome :=
  match (nextOf o).bind fun t => t.portLog.getLast? with
  | some (.outcome x) => some x
  | _ => none

/-- A step on one frame. -/
def onFrame (bytes : List Byte) : Result := step (waitingFor [.frameIn bytes])

/-- A step on one line. -/
def onLine (text : String) : Result := step (waitingFor [.line text.toList])

/-- A record with these two fields and no other. -/
def bareRecord (icao : BitVec 24) : Record := minimalRecord (.table []) icao

/-- A record whose heading is blotted out: no test can know its value. -/
def withoutHeading (r : Record) : Record := { r with velocity := r.velocity.map fun v => { v with heading := 0 } }

/-! ### WellFormed refuses an ill-formed term, one for each check -/

theorem test_wellFormed_no_bytes : frameNonempty [] = false ∧ frameWellFormed [] = false := by decide

theorem test_wellFormed_type17_of_seven_bytes :
    frameLengthCorrect [0x8D, 0x48, 0x40, 0xD6, 0x20, 0x2C, 0xC3] = false ∧
    frameWellFormed [0x8D, 0x48, 0x40, 0xD6, 0x20, 0x2C, 0xC3] = false := by decide

theorem test_wellFormed_type4_of_fourteen_bytes :
    frameWellFormed [0x20, 0x00, 0x01, 0x94, 0x89, 0xB5, 0xF1, 0, 0, 0, 0, 0, 0, 0] = false := by decide

theorem test_wellFormed_accepts :
    frameWellFormed [0x20, 0x00, 0x01, 0x94, 0x89, 0xB5, 0xF1] = true ∧
    Instr.wellFormed (.alt13Df4 0 0x000194 0x89B5F1) = true := by decide

/-! ### Words written out from 30_encoding.md R61 to R64 decode to their rows -/

/-- V17: type 0. -/
theorem test_decode_alt13_short : decode [0x00, 0x00, 0x01, 0x94, 0x09, 0xD3, 0xAE] =
    .ok (.alt13Df0 0 0x000194 0x09D3AE) := by rfl

/-- V17: type 20. -/
theorem test_decode_alt13_long : decode [0xA0, 0x00, 0x1F, 0xBF, 0x00, 0x00, 0x00, 0x00, 0x00, 0x00, 0x00, 0x5D, 0x00, 0x1F] =
    .ok (.alt13Df20 0 0x001FBF 0x00000000000000 0x5D001F) := by rfl

/-- V17: type 16. -/
theorem test_decode_alt13_df16 : decode [0x80, 0x00, 0x01, 0x94, 0x00, 0x00, 0x00, 0x00, 0x00, 0x00, 0x00, 0x64, 0x9F, 0x06] =
    .ok (.alt13Df16 0 0x000194 0x00000000000000 0x649F06) := by rfl

/-- V19: type 17, TC 3. -/
theorem test_decode_ident : decode [0x8D, 0xAB, 0xCD, 0xEF, 0x18, 0x01, 0xB7, 0xE1, 0xBF, 0xAF, 0xE0, 0x44, 0xF8, 0x9E] =
    .ok (.identTc3 5 0xABCDEF 0 0x01B7E1BFAFE0 0x44F89E) := by rfl

/-- V22: type 17, TC 19, ST 2. -/
theorem test_decode_posvel : decode [0x8D, 0x48, 0x50, 0x20, 0x9A, 0x03, 0xFF, 0x7F, 0xE0, 0x00, 0x00, 0xE7, 0x6F, 0x4C] =
    .ok (.posvelSt2 5 0x485020 0x03FF7FE00000 0xE76F4C) := by rfl

/-- V21: type 17, TC 19, ST 4. -/
theorem test_decode_pos : decode [0x8D, 0x48, 0x50, 0x20, 0x9C, 0x00, 0x07, 0xFF, 0xFF, 0xFF, 0xFF, 0x57, 0x72, 0x04] =
    .ok (.posSt4 5 0x485020 0x0007FFFFFFFF 0x577204) := by rfl

/-- V24o: type 11. -/
theorem test_decode_min_short : decode [0x58, 0x48, 0x40, 0xD6, 0x7C, 0x7C, 0x10] =
    .ok (.minDf11 0 0x4840D6 0x7C7C10) := by rfl

/-- V15n: type 18 is short. -/
theorem test_decode_min_df18 : decode [0x90, 0x48, 0x40, 0xD6, 0x22, 0xDF, 0x51] =
    .ok (.minDf18 0 0x4840D6 0x22DF51) := by rfl

/-- V24n: type 21. -/
theorem test_decode_min_long : decode [0xA8, 0x48, 0x40, 0xD6, 0x00, 0x00, 0x00, 0x00, 0x00, 0x00, 0x00, 0x9A, 0xD8, 0x68] =
    .ok (.minDf21 0 0x4840D6 0x00000000000000 0x9AD868) := by rfl

/-- V24m: type 17, TC 31, ST 7. -/
theorem test_decode_min_tc31 : decode [0x8D, 0x48, 0x50, 0x20, 0xFF, 0x00, 0x00, 0x00, 0x00, 0x00, 0x00, 0xAB, 0xAE, 0x0E] =
    .ok (.minDf17Tc31 5 0x485020 7 0x000000000000 0xABAE0E) := by rfl

/-- V24f: type 17, TC 19, ST 5. -/
theorem test_decode_min_tc19_st5 : decode [0x8D, 0x48, 0x50, 0x20, 0x9D, 0x00, 0x00, 0x00, 0x00, 0x00, 0x00, 0x7C, 0xC5, 0x23] =
    .ok (.minDf17Tc19St5 5 0x485020 0x000000000000 0x7CC523) := by rfl

/-- Type 31, the last one, written out: byte 0 is 11111 101. -/
theorem test_decode_type31 : decode [0b11111101, 0x12, 0x34, 0x56, 0x78, 0x9A, 0xBC] =
    .ok (.minDf31 5 0x123456 0x789ABC) := by rfl

/-- Types 19 and 1 written out: 10011 000 and 00001 111. -/
theorem test_decode_types_19_and_1 :
    decode [0b10011000, 1, 2, 3, 4, 5, 6, 7, 8, 9, 10, 11, 12, 13] =
      .ok (.minDf19 0 0x010203 0x0405060708090A 0x0B0C0D) ∧
    decode [0b00001111, 1, 2, 3, 4, 5, 6] = .ok (.minDf1 7 0x010203 0x040506) := ⟨rfl, rfl⟩

/-- MALFORMED, by name: no bytes; 7 bytes of type 17 (V15i); 15 bytes of type 17 (V15k). -/
theorem test_decode_refuses :
    decode [] = .error .empty ∧
    decode [0x8D, 0x48, 0x40, 0xD6, 0x20, 0x2C, 0xC3] = .error (.length 7 14) ∧
    decode [0x8D, 0x48, 0x40, 0xD6, 0x20, 0x2C, 0xC3, 0x71, 0xC3, 0x2C, 0xE0, 0x57, 0x60, 0x98, 0] =
      .error (.length 15 14) := ⟨rfl, rfl, rfl⟩

/-- Every row of the opcode table, as a table word, decodes to an instruction with that row's mnemonic. -/
theorem test_every_table_word_decodes :
    (opcodeTable.all fun r =>
      ((decodeTableWord 40 r.matchBits.toNat).map Instr.mnemonic) == some r.mnemonic) = true := by
  decide +kernel

/-- A placed table word runs next: the frame is cut short of a checksum, so it is dropped (log entry 12). -/
theorem test_withFetchWord_runs_next :
    ((nextOf (step (State.reset.withFetchWord 40 0x8800000099))).map fun t => t.portLog.length) = some 1 := by
  decide +kernel

/-! ### One step on one frame -/

/-- V17: altitude −1000. -/
theorem test_alt13_n0 : recordOf (onFrame [0x20, 0x00, 0x00, 0x10, 0x80, 0x86, 0x87]) =
    some { bareRecord 0x000010 with altitude := some (BitVec.ofInt 32 (-1000)) } := by decide +kernel

/-- V17: altitude 1500. -/
theorem test_alt13_n100 : recordOf (onFrame [0x20, 0x00, 0x01, 0x94, 0x89, 0xB5, 0xF1]) =
    some { bareRecord 0x000194 with altitude := some (1500) } := by decide +kernel

/-- V17: altitude 1500. -/
theorem test_alt13_df0 : recordOf (onFrame [0x00, 0x00, 0x01, 0x94, 0x09, 0xD3, 0xAE]) =
    some { bareRecord 0x000194 with altitude := some (1500) } := by decide +kernel

/-- V17: altitude 1500. -/
theorem test_alt13_df16 : recordOf (onFrame [0x80, 0x00, 0x01, 0x94, 0x00, 0x00, 0x00, 0x00, 0x00, 0x00, 0x00, 0x64, 0x9F, 0x06]) =
    some { bareRecord 0x000194 with altitude := some (1500) } := by decide +kernel

/-- V17: altitude 50175. -/
theorem test_alt13_df20_n2047 : recordOf (onFrame [0xA0, 0x00, 0x1F, 0xBF, 0x00, 0x00, 0x00, 0x00, 0x00, 0x00, 0x00, 0x5D, 0x00, 0x1F]) =
    some { bareRecord 0x001FBF with altitude := some (50175) } := by decide +kernel

/-- V5: M set gives 0, present. -/
theorem test_alt13_m_set : recordOf (onFrame [0x20, 0x00, 0x01, 0xD4, 0x8A, 0x36, 0x91]) =
    some { bareRecord 0x0001D4 with altitude := some (0) } := by decide +kernel

/-- V17: Q clear gives 0, present. -/
theorem test_alt13_q_clear : recordOf (onFrame [0x20, 0x00, 0x01, 0x84, 0x89, 0x55, 0x29]) =
    some { bareRecord 0x000184 with altitude := some (0) } := by decide +kernel

/-- V1. -/
theorem test_ident_klm : recordOf (onFrame [0x8D, 0x48, 0x40, 0xD6, 0x20, 0x2C, 0xC3, 0x71, 0xC3, 0x2C, 0xE0, 0x57, 0x60, 0x98]) =
    some { bareRecord 0x4840D6 with callsign := some "KLM1023".toList } := by decide +kernel

/-- V19: present and empty. -/
theorem test_ident_eight_spaces : recordOf (onFrame [0x8D, 0xAB, 0xCD, 0xEF, 0x08, 0x82, 0x08, 0x20, 0x82, 0x08, 0x20, 0xC7, 0x18, 0x34]) =
    some { bareRecord 0xABCDEF with callsign := some "".toList } := by decide +kernel

/-- V19. -/
theorem test_ident_inner_space : recordOf (onFrame [0x8D, 0xAB, 0xCD, 0xEF, 0x10, 0x04, 0x28, 0x03, 0x82, 0x08, 0x20, 0x2E, 0xCF, 0xE0]) =
    some { bareRecord 0xABCDEF with callsign := some "AB C".toList } := by decide +kernel

/-- V19. -/
theorem test_ident_leading_space : recordOf (onFrame [0x8D, 0xAB, 0xCD, 0xEF, 0x20, 0x80, 0x18, 0x20, 0x82, 0x08, 0x20, 0x71, 0xD9, 0x2A]) =
    some { bareRecord 0xABCDEF with callsign := some " A".toList } := by decide +kernel

/-- V19. -/
theorem test_ident_question_marks : recordOf (onFrame [0x8D, 0xAB, 0xCD, 0xEF, 0x18, 0x01, 0xB7, 0xE1, 0xBF, 0xAF, 0xE0, 0x44, 0xF8, 0x9E]) =
    some { bareRecord 0xABCDEF with callsign := some "???????".toList } := by decide +kernel

/-- V24d in full. -/
theorem test_pos_st3 : recordOf (onFrame [0x8D, 0x48, 0x50, 0x20, 0x9B, 0xC3, 0x80, 0x94, 0x08, 0x38, 0x17, 0x27, 0xCF, 0x05]) =
    some { bareRecord 0x485020 with position := some ⟨false, 18948, 14359⟩, altitude := some (38000) } := by decide +kernel

/-- V21. -/
theorem test_pos_st4_extremes : recordOf (onFrame [0x8D, 0x48, 0x50, 0x20, 0x9C, 0x00, 0x07, 0xFF, 0xFF, 0xFF, 0xFF, 0x57, 0x72, 0x04]) =
    some { bareRecord 0x485020 with position := some ⟨true, 131071, 131071⟩, altitude := some (0) } := by decide +kernel

/-- V18: n = 0. -/
theorem test_pos_n0 : recordOf (onFrame [0x8D, 0x48, 0x50, 0x20, 0x9B, 0x01, 0x00, 0x00, 0x00, 0x00, 0x00, 0x40, 0xE1, 0x18]) =
    some { bareRecord 0x485020 with position := some ⟨false, 0, 0⟩, altitude := some (BitVec.ofInt 32 (-1000)) } := by decide +kernel

/-- V20: position, altitude, speed 160.25292509030842. -/
theorem test_posvel_v20 : (recordOf (onFrame [0x8D, 0x48, 0x50, 0x20, 0x99, 0x44, 0x09, 0x94, 0x08, 0x38, 0x17, 0x5B, 0x28, 0x4F])).map withoutHeading =
    some { bareRecord 0x485020 with
      position := some ⟨false, 51716, 14359⟩
      altitude := some (0)
      velocity := some ⟨0x40640817F65BE6CD, 0⟩ } := by decide +kernel

/-- V6: pos_f overlaps the velocity; speed 7.0710678118654755. -/
theorem test_posvel_v6 : (recordOf (onFrame [0x8D, 0x48, 0x50, 0x20, 0x99, 0x04, 0x05, 0x80, 0xA0, 0x00, 0x00, 0x78, 0x6A, 0xA2])).map withoutHeading =
    some { bareRecord 0x485020 with
      position := some ⟨true, 49232, 0⟩
      altitude := some (0)
      velocity := some ⟨0x401C48C6001F0AC0, 0⟩ } := by decide +kernel

/-- V22, ST 2: altitude −225, raw_lat 114672, speed 1446.7404743076763. -/
theorem test_posvel_st2_extremes : (recordOf (onFrame [0x8D, 0x48, 0x50, 0x20, 0x9A, 0x03, 0xFF, 0x7F, 0xE0, 0x00, 0x00, 0xE7, 0x6F, 0x4C])).map withoutHeading =
    some { bareRecord 0x485020 with
      position := some ⟨true, 114672, 0⟩
      altitude := some (BitVec.ofInt 32 (-225))
      velocity := some ⟨0x40969AF63EE59BFE, 0⟩ } := by decide +kernel

/-- V7. -/
theorem test_min_df5 : recordOf (onFrame [0x28, 0xAB, 0xCD, 0xEF, 0xCE, 0xF5, 0x6F]) =
    some (bareRecord 0xABCDEF) := by decide +kernel

/-- V15n. -/
theorem test_min_df18 : recordOf (onFrame [0x90, 0x48, 0x40, 0xD6, 0x22, 0xDF, 0x51]) =
    some (bareRecord 0x4840D6) := by decide +kernel

/-- V24n. -/
theorem test_min_df21 : recordOf (onFrame [0xA8, 0x48, 0x40, 0xD6, 0x00, 0x00, 0x00, 0x00, 0x00, 0x00, 0x00, 0x9A, 0xD8, 0x68]) =
    some (bareRecord 0x4840D6) := by decide +kernel

/-- V24h. -/
theorem test_min_tc0 : recordOf (onFrame [0x8D, 0x48, 0x50, 0x20, 0x00, 0x00, 0x00, 0x00, 0x00, 0x00, 0x00, 0xCA, 0x31, 0xBD]) =
    some (bareRecord 0x485020) := by decide +kernel

/-- V24q. -/
theorem test_min_tc11 : recordOf (onFrame [0x8D, 0x40, 0x62, 0x1D, 0x58, 0xC3, 0x82, 0xD6, 0x90, 0xC8, 0xAC, 0x28, 0x63, 0xA7]) =
    some (bareRecord 0x40621D) := by decide +kernel

/-- V24e. -/
theorem test_min_tc19_st0 : recordOf (onFrame [0x8D, 0x48, 0x50, 0x20, 0x98, 0x00, 0x00, 0x00, 0x00, 0x00, 0x00, 0x2E, 0xBC, 0x1A]) =
    some (bareRecord 0x485020) := by decide +kernel

/-- V16. -/
theorem test_min_df31 : recordOf (onFrame [0xF8, 0xFF, 0xFF, 0xFF, 0x2D, 0x0B, 0x03]) =
    some (bareRecord 0xFFFFFF) := by decide +kernel

/-- V20, V6, V22: signed components; no negative zero. -/
theorem test_velocity_components :
    velocityComponents [0x8D, 0x48, 0x50, 0x20, 0x99, 0x44, 0x09, 0x94, 0x08, 0x38, 0x17, 0x5B, 0x28, 0x4F] =
      some (-9, -160) ∧
    velocityComponents [0x8D, 0x48, 0x50, 0x20, 0x99, 0x04, 0x05, 0x80, 0xA0, 0x00, 0x00, 0x78, 0x6A, 0xA2] =
      some (-5, -5) ∧
    velocityComponents [0x8D, 0x48, 0x50, 0x20, 0x99, 0x04, 0x00, 0x80, 0x00, 0x00, 0x00, 0xD8, 0x33, 0xD0] =
      some (0, 0) := by decide +kernel

/-- V22: heading 0.0, 90.0, 180.0 and 270.0 on the axes (law H4). -/
theorem test_headings_on_the_axes :
    Config.headingDeg 0 5 = 0x0000000000000000 ∧ Config.headingDeg 5 0 = 0x4056800000000000 ∧
    Config.headingDeg 0 (-5) = 0x4066800000000000 ∧ Config.headingDeg (-5) 0 = 0x4070E00000000000 := by
  obtain ⟨-, north, -, -, -⟩ := headingDeg_lawful 0 5
  obtain ⟨-, -, east, -, -⟩ := headingDeg_lawful 5 0
  obtain ⟨-, -, -, south, -⟩ := headingDeg_lawful 0 (-5)
  obtain ⟨-, -, -, -, west⟩ := headingDeg_lawful (-5) 0
  exact ⟨(north rfl (by decide)).trans (by decide +kernel), (east (by decide) rfl).trans (by decide +kernel),
    (south rfl (by decide)).trans (by decide +kernel), (west (by decide) rfl).trans (by decide +kernel)⟩

/-- V22: speeds 0.0, 5.0 (3, 4), 1023.0004887584365 and 910.1736098129851 (V23). -/
theorem test_speeds :
    speedOfComponents 0 0 = 0 ∧ speedOfComponents 3 4 = 0x4014000000000000 ∧
    speedOfComponents (-1) 1023 = 0x408FF80100400C01 ∧ speedOfComponents 896 (-160) = 0x408C71638D8AA849 := by decide +kernel

/-- V10: single-bit frames of both lengths. -/
theorem test_crc_single_bits :
    computeCrc (0x80 :: List.replicate 13 0) 112 = some 0x3935EA ∧
    computeCrc (0x80 :: List.replicate 6 0) 56 = some 0x018567 ∧
    computeCrc (List.replicate 10 0 ++ [0x01, 0x00, 0x00, 0x00]) 112 = some 0xFFF409 ∧
    computeCrc (List.replicate 6 0 ++ [0x01]) 56 = some 0 := by decide +kernel

/-- V12: linearity on two frames. -/
theorem test_crc_linear :
    computeCrc ([0, 0, 0, 0, 0x08] ++ List.replicate 9 0) 112 = some 0xE3F395 ∧
    computeCrc ([0x80, 0, 0, 0, 0x08] ++ List.replicate 9 0) 112 = some 0xDAC67F := by decide +kernel

/-- V11: the all-zero 7-byte frame is a record with altitude 0. -/
theorem test_all_zero_frame : recordOf (onFrame (List.replicate 7 0)) =
    some { bareRecord 0 with altitude := some 0 } := by decide +kernel

/-- V9: a flipped checksum bit, OUTCOME 2; nothing but the outcome port changes. -/
theorem test_checksum_mismatch :
    nextOf (onFrame [0x8D, 0x48, 0x40, 0xD6, 0x20, 0x2C, 0xC3, 0x71, 0xC3, 0x2C, 0xE0, 0x57, 0x60, 0x99]) =
    some { waitingFor [] with portLog := [.outcome (.checksumMismatch 0x576098 0x576099)] } := by decide +kernel

/-- V13: a flipped data bit. -/
theorem test_data_bit_flipped :
    outcomeOf (onFrame [0x8D, 0x48, 0x40, 0xD6, 0x20, 0xAC, 0xC3, 0x71, 0xC3, 0x2C, 0xE0, 0x57, 0x60, 0x98]) =
    some (.checksumMismatch 0xC6A7E7 0x576098) := by decide +kernel

/-- V8 and P3: a registry hit adds the four strings, a miss none. -/
theorem test_registry_hit_and_miss :
    (recordOf (step { waitingFor [.frameIn [0x8D, 0x48, 0x50, 0x20, 0x98, 0, 0, 0, 0, 0, 0, 0x2E, 0xBC, 0x1A]] with
        registry := .table [(0x485020, ⟨['T'], ['M'], ['A'], ['O']⟩)] })).map Record.registry =
      some (some ⟨['T'], ['M'], ['A'], ['O']⟩) ∧
    (recordOf (step { waitingFor [.frameIn [0x28, 0xAB, 0xCD, 0xEF, 0xCE, 0xF5, 0x6F]] with
        registry := .table [(0x485020, ⟨['T'], ['M'], ['A'], ['O']⟩)] })).map Record.registry =
      some none := by decide +kernel

/-! ### The front end (95_test_vectors.md, V15) -/

theorem test_front_end_accepts :
    frontEnd "*8D48;".toList = .frame [0x8D, 0x48] ∧ frontEnd "  *8d48;\r".toList = .frame [0x8D, 0x48] ∧
    frontEnd "8D48\n".toList = .frame [0x8D, 0x48] := by decide +kernel

theorem test_front_end_skips :
    frontEnd [] = .skip ∧ frontEnd "   ".toList = .skip ∧ frontEnd "\t\r\n".toList = .skip := by decide +kernel

theorem test_front_end_rejects :
    frontEnd "*;".toList = .badHex ∧ frontEnd "*8D4G;".toList = .badHex ∧ frontEnd "*8D4;".toList = .badHex ∧
    frontEnd "**8D48;".toList = .badHex := by decide +kernel

/-- V15b: blanks, lowercase and CR. -/
theorem test_line_record : recordOf (onLine "  *8d4840d6202cc371c32ce0576098;\r") =
    some { bareRecord 0x4840D6 with callsign := some "KLM1023".toList } := by decide +kernel

/-- V15e, V15i, V15j, V15l. -/
theorem test_line_malformed :
    outcomeOf (onLine "*;") = some (.malformed .hex) ∧
    outcomeOf (onLine "*8D4840D6202CC3;") = some (.malformed (.length 7 14)) ∧
    outcomeOf (onLine "*2000019489B5F100000000000000;") = some (.malformed (.length 14 7)) ∧
    outcomeOf (onLine "*0D4840D6202CC371C32CE0576098;") = some (.malformed (.length 14 7)) := by decide +kernel

/-- V15d and the direct empty frame. -/
theorem test_skipped_line_and_empty_frame :
    nextOf (onLine "  ") = some (waitingFor []) ∧ outcomeOf (onFrame []) = some (.malformed .empty) := by
  decide +kernel

/-! ### Status, transport, reset, boot (V25) -/

/-- V25a, V25d. -/
theorem test_transport :
    nextOf (step (waitingFor [.transportIn])) = some { waitingFor [] with portLog := [.faultOut true] } ∧
    nextOf (step { waitingFor [.transportIn] with seenValid := true }) =
      some { waitingFor [] with seenValid := true, portLog := [.faultOut false] } := by decide +kernel

/-- V25c, V25e, V25f. -/
theorem test_status_bit :
    (nextOf (onFrame [0x28, 0xAB, 0xCD, 0xEF, 0xCE, 0xF5, 0x6F])).map State.statusRegister = some 0x01 ∧
    (nextOf (step { waitingFor [.frameIn []] with seenValid := true })).map State.statusRegister = some 0x01 ∧
    (nextOf (step { waitingFor [.reset] with seenValid := true })).map State.statusRegister = some 0x00 := by
  decide +kernel

/-- V25g. -/
theorem test_status_read :
    nextOf (step { waitingFor [.statusRead] with seenValid := true }) =
      some { waitingFor [] with seenValid := true, portLog := [.statusRead 0x01] } := by decide +kernel

/-- 70_reset_and_hazards.md R192: a frame before boot has no step; a failed registry load stops boot. -/
theorem test_boot_faults :
    faultOf (step { State.powerUp with hostInput := [.frameIn []] }) = some .notStarted ∧
    faultOf (step { State.powerUp with hostInput := [.loadRegistry none] }) = some .registryLoadFailure ∧
    faultOf (step { State.reset with hostInput := [.loadRegistry (some .parameter)] }) = some .registryReload := by
  decide +kernel

/-- 60_exceptions.md R180, 70_reset_and_hazards.md R192: one load supplies both instances, whose lookups then give the same
answer. -/
theorem test_one_load_for_both_instances :
    (match systemSteps 5 ⟨.parameter,
        List.replicate 2 (State.own { State.powerUp with hostInput := [.reset, .frameIn [0x28, 0xAB, 0xCD, 0xEF, 0xCE, 0xF5, 0x6F]] }),
        [.load (some (.table [(0xABCDEF, ⟨['T'], ['M'], ['A'], ['O']⟩)])), .advance 0, .advance 1, .advance 1, .advance 0],
        []⟩ with
      | .next sys => sys.cores.map fun c => c.portLog.head?
      | _ => []) =
    List.replicate 2 (some (.regLookup 0xABCDEF (some ⟨['T'], ['M'], ['A'], ['O']⟩))) := by decide +kernel

/-- 42_dispatch.md R150, V1: the serialized keys and values of a callsign record. -/
theorem test_serialize : (serialize { bareRecord 0x4840D6 with callsign := some ['K'] }).map
    (fun e => (e.1.name, e.2)) =
    [("icao", .text "4840d6".toList), ("crc_valid", .bool true), ("callsign", .text ['K'])] := by decide +kernel

/-! ### Witnesses: for every statement with hypotheses, a state and operands that meet them -/

/-- Frames of every class, at the ends of the ranges their rows are selected by, decode. Meets the hypotheses of
EncodeOfDecodeIsTheFrame, DecodedInstructionIsTheMatchingRow and DispatchClassFollowsTheKey. -/
theorem witness_frames_decode :
    decode [0x00, 0x00, 0x01, 0x94, 0x09, 0xD3, 0xAE] =
      .ok (.alt13Df0 0 0x000194 0x09D3AE) ∧
    decode [0x20, 0x00, 0x01, 0x94, 0x89, 0xB5, 0xF1] =
      .ok (.alt13Df4 0 0x000194 0x89B5F1) ∧
    decode [0x80, 0x00, 0x01, 0x94, 0x00, 0x00, 0x00, 0x00, 0x00, 0x00, 0x00, 0x64, 0x9F, 0x06] =
      .ok (.alt13Df16 0 0x000194 0x00000000000000 0x649F06) ∧
    decode [0xA0, 0x00, 0x1F, 0xBF, 0x00, 0x00, 0x00, 0x00, 0x00, 0x00, 0x00, 0x5D, 0x00, 0x1F] =
      .ok (.alt13Df20 0 0x001FBF 0x00000000000000 0x5D001F) ∧
    decode [0x8D, 0xAB, 0xCD, 0xEF, 0x08, 0x82, 0x08, 0x20, 0x82, 0x08, 0x20, 0xC7, 0x18, 0x34] =
      .ok (.identTc1 5 0xABCDEF 0 0x820820820820 0xC71834) ∧
    decode [0x8D, 0x48, 0x40, 0xD6, 0x20, 0x2C, 0xC3, 0x71, 0xC3, 0x2C, 0xE0, 0x57, 0x60, 0x98] =
      .ok (.identTc4 5 0x4840D6 0 0x2CC371C32CE0 0x576098) ∧
    decode [0x8D, 0x48, 0x50, 0x20, 0x99, 0x44, 0x09, 0x94, 0x08, 0x38, 0x17, 0x5B, 0x28, 0x4F] =
      .ok (.posvelSt1 5 0x485020 0x440994083817 0x5B284F) ∧
    decode [0x8D, 0x48, 0x50, 0x20, 0x9A, 0x03, 0xFF, 0x7F, 0xE0, 0x00, 0x00, 0xE7, 0x6F, 0x4C] =
      .ok (.posvelSt2 5 0x485020 0x03FF7FE00000 0xE76F4C) ∧
    decode [0x8D, 0x48, 0x50, 0x20, 0x9B, 0xC3, 0x80, 0x94, 0x08, 0x38, 0x17, 0x27, 0xCF, 0x05] =
      .ok (.posSt3 5 0x485020 0xC38094083817 0x27CF05) ∧
    decode [0x8D, 0x48, 0x50, 0x20, 0x9C, 0x00, 0x07, 0xFF, 0xFF, 0xFF, 0xFF, 0x57, 0x72, 0x04] =
      .ok (.posSt4 5 0x485020 0x0007FFFFFFFF 0x577204) ∧
    decode [0x8D, 0x48, 0x50, 0x20, 0x00, 0x00, 0x00, 0x00, 0x00, 0x00, 0x00, 0xCA, 0x31, 0xBD] =
      .ok (.minDf17Tc0 5 0x485020 0 0x000000000000 0xCA31BD) ∧
    decode [0x8D, 0x48, 0x50, 0x20, 0x28, 0x00, 0x00, 0x00, 0x00, 0x00, 0x00, 0x59, 0xE4, 0x6E] =
      .ok (.minDf17Tc5 5 0x485020 0 0x000000000000 0x59E46E) ∧
    decode [0x8D, 0x48, 0x50, 0x20, 0x98, 0x00, 0x00, 0x00, 0x00, 0x00, 0x00, 0x2E, 0xBC, 0x1A] =
      .ok (.minDf17Tc19St0 5 0x485020 0x000000000000 0x2EBC1A) ∧
    decode [0x8D, 0x48, 0x50, 0x20, 0x9D, 0x00, 0x00, 0x00, 0x00, 0x00, 0x00, 0x7C, 0xC5, 0x23] =
      .ok (.minDf17Tc19St5 5 0x485020 0x000000000000 0x7CC523) ∧
    decode [0xF8, 0xFF, 0xFF, 0xFF, 0x2D, 0x0B, 0x03] =
      .ok (.minDf31 0 0xFFFFFF 0x2D0B03) := by
  refine ⟨?_, ?_, ?_, ?_, ?_, ?_, ?_, ?_, ?_, ?_, ?_, ?_, ?_, ?_, ?_⟩ <;> rfl

/-- Valid frames of the four rows (V17). -/
theorem witness_Alt13FramesEmitTheirAltitude :
    CrcValid (.alt13Df0 0 0x000194 0x09D3AE) ∧
    CrcValid (.alt13Df4 0 0x000194 0x89B5F1) ∧
    CrcValid (.alt13Df16 0 0x000194 0x00000000000000 0x649F06) ∧
    CrcValid (.alt13Df20 0 0x001FBF 0x00000000000000 0x5D001F) := by
  unfold CrcValid
  decide +kernel

/-- Valid frames of the four rows (V1, V19). -/
theorem witness_IdentFramesEmitTheirCallsign :
    CrcValid (.identTc1 5 0xABCDEF 0 0x820820820820 0xC71834) ∧
    CrcValid (.identTc2 5 0xABCDEF 0 0x042803820820 0x2ECFE0) ∧
    CrcValid (.identTc3 5 0xABCDEF 0 0x01B7E1BFAFE0 0x44F89E) ∧
    CrcValid (.identTc4 5 0x4840D6 0 0x2CC371C32CE0 0x576098) := by
  unfold CrcValid
  decide +kernel

/-- Valid frames of the two rows (V20, V22). -/
theorem witness_PosvelFramesEmitPositionAltitudeAndVelocity :
    CrcValid (.posvelSt1 5 0x485020 0x440994083817 0x5B284F) ∧
    CrcValid (.posvelSt2 5 0x485020 0x03FF7FE00000 0xE76F4C) := by
  unfold CrcValid
  decide +kernel

/-- Valid frames of the two rows (V21, V24d). -/
theorem witness_PosFramesEmitPositionAndAltitude :
    CrcValid (.posSt3 5 0x485020 0xC38094083817 0x27CF05) ∧
    CrcValid (.posSt4 5 0x485020 0x0007FFFFFFFF 0x577204) := by
  unfold CrcValid
  decide +kernel

/-- Valid MIN frames: short and long types, TC 0 and 31, ST 0 and 7 (V7, V16, V24). -/
theorem witness_MinFramesEmitTheMinimalRecord :
    (Instr.cls (.minDf5 0 0xABCDEF 0xCEF56F) = .min ∧
      CrcValid (.minDf5 0 0xABCDEF 0xCEF56F)) ∧
    (Instr.cls (.minDf31 0 0xFFFFFF 0x2D0B03) = .min ∧
      CrcValid (.minDf31 0 0xFFFFFF 0x2D0B03)) ∧
    (Instr.cls (.minDf21 0 0x4840D6 0x00000000000000 0x9AD868) = .min ∧
      CrcValid (.minDf21 0 0x4840D6 0x00000000000000 0x9AD868)) ∧
    (Instr.cls (.minDf17Tc0 5 0x485020 0 0x000000000000 0xCA31BD) = .min ∧
      CrcValid (.minDf17Tc0 5 0x485020 0 0x000000000000 0xCA31BD)) ∧
    (Instr.cls (.minDf17Tc31 5 0x485020 7 0x000000000000 0xABAE0E) = .min ∧
      CrcValid (.minDf17Tc31 5 0x485020 7 0x000000000000 0xABAE0E)) ∧
    (Instr.cls (.minDf17Tc19St0 5 0x485020 0x000000000000 0x2EBC1A) = .min ∧
      CrcValid (.minDf17Tc19St0 5 0x485020 0x000000000000 0x2EBC1A)) ∧
    (Instr.cls (.minDf17Tc19St7 5 0x485020 0x000000000000 0x3BC4C4) = .min ∧
      CrcValid (.minDf17Tc19St7 5 0x485020 0x000000000000 0x3BC4C4)) := by
  unfold CrcValid
  decide +kernel

/-- A mismatched short frame and a mismatched long one (V9). -/
theorem witness_MismatchedFramesAreDropped :
    (computeCrc (encode (.minDf5 0 0xABCDEF 0xCEF56E)) (lenByType 5) = some 0xCEF56F ∧ (0xCEF56F : BitVec 24) ≠ 0xCEF56E) ∧
    (computeCrc (encode (.identTc4 5 0x4840D6 0 0x2CC371C32CE0 0x576099)) (lenByType 17) = some 0x576098 ∧
      (0x576098 : BitVec 24) ≠ 0x576099) := by decide +kernel

/-- Both outcomes of an instruction, from one state. Meets the hypotheses of FramesChangeOnlyStatusLatchAndPorts and
TheRegistryIsConsultedOncePerRecord. -/
theorem witness_exec_answers_next :
    (∃ t, exec (.minDf5 0 0xABCDEF 0xCEF56F) (waitingFor []) = .next t ∧ t.seenValid = true) ∧
    ∃ t, exec (.minDf5 0 0xABCDEF 0xCEF56E) (waitingFor []) = .next t ∧ t.seenValid = false :=
  ⟨⟨_, rfl, rfl⟩, ⟨_, rfl, rfl⟩⟩

/-- A record is the last output of an instruction. -/
theorem witness_PresenceBitsAreThoseOfTheClass :
    ∃ t, exec (.alt13Df4 0 0x000194 0x89B5F1) (waitingFor []) = .next t ∧
      t.portLog.getLast? = some (.recordOut { bareRecord 0x000194 with altitude := some 1500 }) :=
  ⟨_, rfl, rfl⟩

/-- The shortest bytes that have each field, and a short frame. -/
theorem witness_ByteFormsAreTheFrameBitRanges :
    1 ≤ [(0xFF : Byte)].length ∧ 3 ≤ (List.replicate 3 (0xFF : Byte)).length ∧
    4 ≤ (List.replicate 4 (0xFF : Byte)).length ∧ 5 ≤ (List.replicate 5 (0xFF : Byte)).length ∧
    7 ≤ ([0x20, 0x00, 0x01, 0x94, 0x89, 0xB5, 0xF1] : List Byte).length ∧
    9 ≤ (List.replicate 9 (0xFF : Byte)).length ∧ 11 ≤ (List.replicate 11 (0xFF : Byte)).length := by decide

/-- The two lengths. Meets the hypotheses of ComputeCrcXorsTheEntriesOfTheSetBits, and with equal first bytes those of
ChecksumBitsDoNotFeedBack. -/
theorem witness_crc_lengths :
    8 * (encode (.minDf5 0 0xABCDEF 0xCEF56F)).length = 56 ∧ 8 * (encode (.minDf5 0 0xABCDEF 0)).length = 56 ∧
    (encode (.minDf5 0 0xABCDEF 0xCEF56F)).take (7 - 3) = (encode (.minDf5 0 0xABCDEF 0)).take (7 - 3) ∧
    8 * (encode (.minDf21 0 0x4840D6 0 0x9AD868)).length = 112 ∧ 8 * (encode (.minDf21 0 0x4840D6 0 0)).length = 112 ∧
    (encode (.minDf21 0 0x4840D6 0 0x9AD868)).take (14 - 3) = (encode (.minDf21 0 0x4840D6 0 0)).take (14 - 3) := by
  decide

/-- Checksums of both lengths. Meets the hypotheses of ComputeCrcIsLinear and ComputeCrcIsThePolynomialRemainder. -/
theorem witness_crc_values :
    computeCrc (encode (.minDf5 0 0xABCDEF 0xCEF56F)) 56 = some 0xCEF56F ∧
    computeCrc (List.replicate 7 0) 56 = some 0 ∧
    computeCrc (encode (.minDf21 0 0x4840D6 0 0x9AD868)) 112 = some 0x9AD868 ∧
    computeCrc (0x80 :: List.replicate 13 0) 112 = some 0x3935EA := by decide +kernel

/-- Altitudes at both ends of the range, by either code (V17, V18). -/
theorem witness_AltitudesStayInTheirRange :
    alt13 [0x20, 0x00, 0x00, 0x10, 0x80, 0x86, 0x87] = some (BitVec.ofInt 32 (-1000)) ∧
    alt13 [0x20, 0x00, 0x1F, 0xBF, 0xC3, 0x75, 0x3F] = some 50175 ∧
    alt12 [0x8D, 0x48, 0x50, 0x20, 0x9B, 0x01, 0x00] = some (BitVec.ofInt 32 (-1000)) ∧
    alt12 [0x8D, 0x48, 0x50, 0x20, 0x9B, 0xFF, 0xF0] = some 50175 := by decide +kernel

/-- An empty callsign and one of eight characters. -/
theorem witness_CallsignsAreTrimmedCharsetText :
    callsign [0, 0, 0, 0, 0, 0x82, 0x08, 0x20, 0x82, 0x08, 0x20] = some [] ∧
    callsign (List.replicate 11 0) = some "????????".toList := by decide +kernel

/-- Components on the axes and at the ends of their range (V22). Meets the hypotheses of
SpeedIsTheNearestBinary64OfTheNorm and HeadingsObeyTheirLaws. -/
theorem witness_velocity_components :
    velocityComponents [0x8D, 0x48, 0x50, 0x20, 0x99, 0x00, 0x00, 0x00, 0x00, 0x00, 0x00, 0xF2, 0xC6, 0xED] =
      some (0, 0) ∧
    velocityComponents [0x8D, 0x48, 0x50, 0x20, 0x99, 0x00, 0x00, 0x00, 0xA0, 0x00, 0x00, 0x5D, 0xBE, 0x69] =
      some (0, 5) ∧
    velocityComponents [0x8D, 0x48, 0x50, 0x20, 0x99, 0x00, 0x05, 0x00, 0x00, 0x00, 0x00, 0xFD, 0xE7, 0x1B] =
      some (5, 0) ∧
    velocityComponents [0x8D, 0x48, 0x50, 0x20, 0x99, 0x00, 0x00, 0x80, 0xA0, 0x00, 0x00, 0x5C, 0x3B, 0x0E] =
      some (0, -5) ∧
    velocityComponents [0x8D, 0x48, 0x50, 0x20, 0x99, 0x04, 0x05, 0x00, 0x00, 0x00, 0x00, 0xD6, 0x97, 0x41] =
      some (-5, 0) ∧
    velocityComponents [0x8D, 0x48, 0x50, 0x20, 0x9A, 0x03, 0xFF, 0x7F, 0xE0, 0x00, 0x00, 0xE7, 0x6F, 0x4C] =
      some (1023, 1023) ∧
    velocityComponents [0x8D, 0x48, 0x50, 0x20, 0x9A, 0x07, 0xFF, 0xFF, 0xE0, 0x00, 0x00, 0xCD, 0x9A, 0x71] =
      some (-1023, -1023) := by decide +kernel

/-- A frame first in line, on FRAME_IN and as a line, and a table word that decodes. Meets the hypotheses of
AStepRunsTheDecodedInstruction and APlacedTableWordRunsNext. -/
theorem witness_AStepRunsTheDecodedInstruction :
    PresentsFrame (waitingFor [.frameIn [0x28, 0xAB, 0xCD, 0xEF, 0xCE, 0xF5, 0x6F]])
      [0x28, 0xAB, 0xCD, 0xEF, 0xCE, 0xF5, 0x6F] [] ∧
    PresentsFrame (waitingFor [.line "*28abcdefCEF56F;".toList]) [0x28, 0xAB, 0xCD, 0xEF, 0xCE, 0xF5, 0x6F] [] ∧
    (waitingFor [.line "*28abcdefCEF56F;".toList]).boot = .running ∧
    decode [0x28, 0xAB, 0xCD, 0xEF, 0xCE, 0xF5, 0x6F] = .ok (.minDf5 0 0xABCDEF 0xCEF56F) ∧
    decodeTableWord 40 0x2800000000 = some (.minDf5 0 0 0) :=
  ⟨.inl rfl, .inr ⟨_, rfl, by decide +kernel⟩, rfl, rfl, rfl⟩

/-- A rejected line; no bytes; frames one byte short and one byte long; and a line whose hex pairs are one byte short
(V15i). No line presents an empty frame, because an empty line is skipped. -/
theorem witness_MalformedInputsAreDropped :
    frontEnd ['*', ';'] = .badHex ∧ (waitingFor [.frameIn []]).boot = .running ∧
    PresentsFrame (waitingFor [.frameIn []]) [] [] ∧
    PresentsFrame (waitingFor [.frameIn [0x28, 1, 2, 3, 4, 5]]) [0x28, 1, 2, 3, 4, 5] [] ∧
    8 * ([0x28, 1, 2, 3, 4, 5] : List Byte).length ≠ lenByType ((0x28 : Byte).extractLsb' 3 5) ∧
    8 * ([0x28, 1, 2, 3, 4, 5, 6, 7] : List Byte).length ≠ lenByType ((0x28 : Byte).extractLsb' 3 5) ∧
    PresentsFrame (waitingFor [.line "*8D4840D6202CC3;".toList]) [0x8D, 0x48, 0x40, 0xD6, 0x20, 0x2C, 0xC3] [] ∧
    8 * ([0x8D, 0x48, 0x40, 0xD6, 0x20, 0x2C, 0xC3] : List Byte).length ≠ lenByType ((0x8D : Byte).extractLsb' 3 5) :=
  ⟨by decide +kernel, rfl, .inl rfl, .inl rfl, by decide, by decide, .inr ⟨_, rfl, by decide +kernel⟩, by decide⟩

/-- A frame and two lines that are not skipped, each with a next state, and a line that is. -/
theorem witness_ExactlyOneOutcomePerTransaction :
    (∃ t, step (waitingFor [.frameIn [0x28, 0xAB, 0xCD, 0xEF, 0xCE, 0xF5, 0x6F]]) = .next t) ∧
    (frontEnd ['*', ';'] ≠ .skip ∧ ∃ t, step (waitingFor [.line ['*', ';']]) = .next t) ∧
    (frontEnd ['0', '0'] ≠ .skip ∧ ∃ t, step (waitingFor [.line ['0', '0']]) = .next t) ∧
    (frontEnd [' '] = .skip ∧ (waitingFor [.line [' ']]).boot = .running) :=
  ⟨⟨_, rfl⟩, ⟨by decide, ⟨_, rfl⟩⟩, ⟨by decide, ⟨_, rfl⟩⟩, rfl, rfl⟩

/-- Two states that differ in all but the registry. -/
theorem witness_OutputsDoNotDependOnEarlierFrames :
    (waitingFor []).registry = { waitingFor [.reset] with seenValid := true }.registry ∧
    ∃ t, runFrame [0x28, 0xAB, 0xCD, 0xEF, 0xCE, 0xF5, 0x6F] (waitingFor []) = .next t := ⟨rfl, ⟨_, rfl⟩⟩

/-- A reset, a status read and a transport event, each first in line after boot. Meets the hypotheses of
ResetOnlyClearsTheStatusBit, StatusReadReturnsTheRegister and TransportFailuresAreGradedByTheStatusBit. -/
theorem witness_events_first_in_line :
    (waitingFor [.reset]).boot = .running ∧ (waitingFor [.reset]).hostInput = .reset :: [] ∧
    (waitingFor [.statusRead]).hostInput = .statusRead :: [] ∧
    (waitingFor [.transportIn]).hostInput = .transportIn :: [] := ⟨rfl, rfl, rfl, rfl⟩

/-- A step with a RECORD outcome, one that is a reset, and one that is neither. -/
theorem witness_SeenValidIsWrittenByRecordAndResetOnly :
    ((nextOf (step (waitingFor [.frameIn [0x28, 0xAB, 0xCD, 0xEF, 0xCE, 0xF5, 0x6F]]))).map fun t =>
      decide (.outcome .record ∈ newOutputs (waitingFor []) t)) = some true ∧
    (∃ t, step (waitingFor [.reset]) = .next t) ∧ ∃ t, step (waitingFor [.transportIn]) = .next t :=
  ⟨by decide +kernel, ⟨_, rfl⟩, ⟨_, rfl⟩⟩

/-- After a RECORD outcome, a status read and a transport event stand in line: at once, and after a further frame that is
dropped. -/
theorem witness_TheStatusBitIsVisibleToLaterEvents :
    ∃ t u v, step (waitingFor [.frameIn [0x28, 0xAB, 0xCD, 0xEF, 0xCE, 0xF5, 0x6F], .frameIn []]) = .next t ∧
      .outcome .record ∈ newOutputs
        (waitingFor [.frameIn [0x28, 0xAB, 0xCD, 0xEF, 0xCE, 0xF5, 0x6F], .frameIn []]) t ∧
      RunsWithoutReset t u ∧ u.hostInput = .statusRead :: [] ∧ RunsWithoutReset t v ∧ v.hostInput = .transportIn :: [] :=
  ⟨_, _, _, rfl, by decide +kernel,
    .present (.next .refl (fun _ h => by simp [waitingFor, State.afterRecord] at h) rfl) [.statusRead], rfl,
    .present (.next .refl (fun _ h => by simp [waitingFor, State.afterRecord] at h) rfl) [.transportIn], rfl⟩

/-- The events of the statement's last clause, each first in line with a next state. -/
theorem witness_TheStatusBitIsVisibleToLaterEvents_before :
    (∃ t, step (waitingFor [.statusRead]) = .next t) ∧ ∃ t, step (waitingFor [.transportIn]) = .next t :=
  ⟨⟨_, rfl⟩, ⟨_, rfl⟩⟩

/-- A powered-up instance with a load and a reset, with a failed load, and with a frame or a line, pending. -/
theorem witness_FramesWaitForBoot :
    State.powerUp.boot = .awaitingRegistry ∧
    { State.powerUp with hostInput := [.loadRegistry (some .parameter), .reset] }.hostInput =
      .loadRegistry (some .parameter) :: .reset :: [] ∧
    { State.powerUp with hostInput := [.loadRegistry none] }.hostInput = .loadRegistry none :: [] ∧
    { State.powerUp with hostInput := [.frameIn []] }.boot ≠ .running ∧
    { State.powerUp with boot := .awaitingReset, hostInput := [.line []] }.boot ≠ .running := by
  refine ⟨rfl, rfl, rfl, ?_, ?_⟩ <;> decide

/-- A running instance that takes a reset, and one with nothing pending. Meets the hypotheses of
TheRegistryIsFixedOnceRunning and WaitingChangesNothing. -/
theorem witness_running_steps :
    (waitingFor [.reset]).boot = .running ∧ (∃ t, step (waitingFor [.reset]) = .next t) ∧
    (waitingFor []).hostInput = [] := ⟨rfl, ⟨_, rfl⟩, rfl⟩

/-- A state other than the reset state that meets the invariant, with the bit set and outputs carried, and its step. -/
theorem witness_EveryStepKeepsTheInvariant :
    { waitingFor [.transportIn] with seenValid := true, portLog := [.outcome .record, .faultOut true] }.Inv ∧
    ∃ t, step { waitingFor [.transportIn] with
      seenValid := true, portLog := [.outcome .record, .faultOut true] } = .next t := by
  refine ⟨⟨rfl, fun _ => ⟨rfl, by decide⟩, ?_⟩, ⟨_, rfl⟩⟩
  intro e he
  simp only [List.mem_cons, List.not_mem_nil, or_false] at he
  rcases he with rfl | rfl <;> exact trivial

/-- A line with every optional part, one with none, and a blank one. -/
theorem witness_TheFrontEndAcceptsExactlyTheGrammar :
    '\n' ∉ " *0A;\r".toList ∧ LineGrammar " *0A;\r".toList [0x0A] ∧ LineGrammar ['0', 'a'] [0x0A] ∧
    ∀ c ∈ [' ', '\t'], IsWs c := by
  have pairs : HexPairs ['0', 'A'] [0x0A] ∧ HexPairs ['0', 'a'] [0x0A] := by
    constructor <;> refine ⟨rfl, fun k b hb => ?_⟩ <;> cases k with
    | zero =>
      cases hb
      exact ⟨'0', _, 0, 10, rfl, rfl, by unfold IsHexDigit; decide, by unfold IsHexDigit; decide, by decide⟩
    | succ k => simp at hb
  refine ⟨by decide, ⟨[' '], ['*'], ['0', 'A'], [';'], ['\r'], by decide, ?_, ?_, .inr rfl, .inr rfl, pairs.1, by decide⟩,
    ⟨[], [], ['0', 'a'], [], [], rfl, ?_, ?_, .inl rfl, .inl rfl, pairs.2, by decide⟩, ?_⟩ <;>
    simp [IsWs]

/-- A blank line, with the hypotheses of the skip clause, and lines that no bytes are the hex pairs of: no digits at all, and
an odd number of them. Meets, with witness_TheFrontEndAcceptsExactlyTheGrammar, the hypotheses of
LinesAreFramesBlanksOrMalformed. -/
theorem witness_LinesAreFramesBlanksOrMalformed :
    (waitingFor [.line (['0', 'a'] ++ ['\n'])]).hostInput = .line (['0', 'a'] ++ ['\n']) :: [] ∧
    (∀ c ∈ [' ', '\t', '\r'], IsWs c) ∧
    (∃ c ∈ ['8'], ¬ IsWs c) ∧ ∀ bytes, ¬ LineGrammar ['8'] bytes := by
  refine ⟨rfl, by simp [IsWs], ⟨'8', by simp, by unfold IsWs; decide⟩, ?_⟩
  rintro bytes ⟨before, star, body, semi, after, h, -, -, -, -, ⟨hlen, -⟩, hne⟩
  have := congrArg List.length h
  have := List.length_pos_iff.2 hne
  simp only [List.length_append, List.length_cons, List.length_nil] at *
  omega

/-- Two running instances with something to do and something to deliver. -/
def twoInstances (schedule : List SystemMove) : System :=
  ⟨.table [],
    [State.own { waitingFor [.transportIn] with portLog := [.faultOut true] },
      State.own { waitingFor [.frameIn [0x28, 0xAB, 0xCD, 0xEF, 0xCE, 0xF5, 0x6F]] with portLog := [.statusRead 0] }],
    schedule, []⟩

/-- Two instances at power-up, the second with this event pending. -/
def twoAwaiting (events : List HostEvent) (schedule : List SystemMove) : System :=
  ⟨.parameter, [State.powerUp.own, State.own { State.powerUp with hostInput := events }], schedule, []⟩

/-- An advance and a delivery, and the two in either order. Meets the hypotheses of InstancesDoNotTouchOneAnother,
MovesOfDifferentInstancesCommute and EachInstancesOutputsKeepTheirOrder. -/
theorem witness_two_instances :
    (∃ sys', systemStep (twoInstances [.advance 1]) = .next sys') ∧
    (∃ sys', systemStep (twoInstances [.deliver 0]) = .next sys') ∧
    (SystemMove.core (.advance 0) = some 0 ∧ SystemMove.core (.deliver 1) = some 1 ∧ 0 ≠ 1 ∧
      ∃ a, systemSteps 2 (twoInstances [.advance 0, .deliver 1]) = .next a) ∧
    ∀ k c, (twoInstances []).cores[k]? = some c → (twoInstances []).outputsOf k <+: c.portLog :=
  ⟨⟨_, rfl⟩, ⟨_, rfl⟩, ⟨rfl, rfl, by decide, ⟨_, rfl⟩⟩, fun _ _ _ => List.nil_prefix⟩

/-- An instance that has gone on from the load, and one that advances on a frame and emits its record. -/
theorem witness_InstancesShareOneFixedRegistry :
    (∃ c ∈ (twoInstances [.advance 1]).cores, c.boot ≠ .awaitingRegistry) ∧
    ∃ c sys' c', (twoInstances [.advance 1]).cores[1]? = some c ∧
      systemStep (twoInstances [.advance 1]) = .next sys' ∧ sys'.cores[1]? = some c' ∧
      .recordOut (bareRecord 0xABCDEF) ∈ c'.portLog.drop c.portLog.length :=
  ⟨⟨_, List.mem_cons_self, by decide⟩, _, _, _, rfl, rfl, rfl, by decide +kernel⟩

/-- Instances that all await the registry, with a load and a failed load first in the schedule; instances that have gone on,
with a load; and an instance that its host presents a load of its own. -/
theorem witness_TheRegistryIsLoadedOnceForAllInstances :
    (∀ c ∈ (twoAwaiting [] [.load (some .parameter)]).cores, c.boot = .awaitingRegistry) ∧
    (∀ c ∈ (twoAwaiting [] [.load none]).cores, c.boot = .awaitingRegistry) ∧
    (∃ c ∈ (twoInstances [.load none]).cores, c.boot ≠ .awaitingRegistry) ∧
    ∃ c, (twoAwaiting [.loadRegistry none] [.advance 1]).cores[1]? = some c ∧ c.hostInput = .loadRegistry none :: [] :=
  ⟨by decide, by decide, by decide, ⟨_, rfl, rfl⟩⟩

/-- An order in which the second instance's output comes first. -/
theorem witness_EveryInterleavingIsAdmitted :
    (∀ p ∈ [(1, PortEvent.statusRead 0), (0, PortEvent.faultOut true)], p.1 < (twoInstances []).cores.length) ∧
    ∀ k c, (twoInstances []).cores[k]? = some c →
      (([(1, PortEvent.statusRead 0), (0, PortEvent.faultOut true)].filter fun p => p.1 == k).map Prod.snd) <+:
        c.portLog := by
  refine ⟨by decide, fun k c h => ?_⟩
  match k with
  | 0 => cases h; exact ⟨[], rfl⟩
  | 1 => cases h; exact ⟨[], rfl⟩
  | k + 2 => simp [twoInstances] at h

end Sys2Proof.Tests
end

section
/-! PROOF. The architectural state (10_state.md): the cases of a step, SEEN_VALID (R24), CHARSET (R22). -/

namespace Sys2Proof.Proofs

open Sys2Proof.Machine Sys2Proof.Laws

/-! ### What an instruction, a frame and a step can do -/

/-- What executing an instruction can answer: its frame is valid and the record of its class leaves, or its checksum does
not match and the frame is dropped (42_dispatch.md R148). -/
theorem exec_next {i : Instr} {s t : State} (h : exec i s = .next t) :
    (∃ r, frameVerdict (encode i) = some .valid ∧
      classFields i.cls (encode i) (minimalRecord s.registry i.icao) = some r ∧ t = s.afterRecord r) ∨
    ∃ c e, frameVerdict (encode i) = some (.mismatch c e) ∧ t = s.afterDrop (.checksumMismatch c e) := by
  rw [exec_eq] at h
  rcases recordTransaction_next h with ⟨r, hv, hr, rfl⟩ | ⟨c, e, hv, rfl⟩
  · rw [openTransaction_frame, assembleRecord_eq (icaoAddress_encode i)] at hr
    exact .inl ⟨r, hv, hr, rfl⟩
  · exact .inr ⟨c, e, hv, rfl⟩

/-- What a frame transaction can answer: the bytes decode and their instruction runs, or they are dropped as MALFORMED
(42_dispatch.md R148, 60_exceptions.md R171). -/
theorem runFrame_next {bytes : List Byte} {s t : State} (h : runFrame bytes s = .next t) :
    (∃ i, decode bytes = .ok i ∧ exec i s = .next t) ∨
    (decode bytes = .error .empty ∧ t = s.afterDrop (.malformed .empty)) ∨
    ∃ nb expected, decode bytes = .error (.length nb expected) ∧
      t = s.afterDrop (.malformed (.length nb expected)) := by
  cases hd : decode bytes with
  | ok i => exact .inl ⟨i, rfl, runFrame_ok hd s ▸ h⟩
  | error e =>
    rw [runFrame_error hd] at h
    cases e with
    | empty => exact .inr (.inl ⟨rfl, (Host.Outcome.next.inj h).symm⟩)
    | length nb expected => exact .inr (.inr ⟨nb, expected, rfl, (Host.Outcome.next.inj h).symm⟩)

/-- The outcome side of a frame transaction: a record leaves, or the frame is dropped with another outcome. -/
theorem runFrame_record_or_drop {bytes : List Byte} {s t : State} (h : runFrame bytes s = .next t) :
    (∃ r, t = s.afterRecord r) ∨ ∃ o, o ≠ .record ∧ t = s.afterDrop o := by
  rcases runFrame_next h with ⟨i, -, hi⟩ | ⟨-, rfl⟩ | ⟨nb, expected, -, rfl⟩
  · rcases exec_next hi with ⟨r, -, -, rfl⟩ | ⟨c, e, -, rfl⟩
    · exact .inl ⟨r, rfl⟩
    · exact .inr ⟨.checksumMismatch c e, nofun, rfl⟩
  · exact .inr ⟨.malformed .empty, nofun, rfl⟩
  · exact .inr ⟨.malformed (.length nb expected), nofun, rfl⟩

/-- What a step from `s` can be, by the event first in line (10_state.md R28, 60_exceptions.md R176); `step_next` says that
every step with a next state is one of these. -/
inductive StepCase (s : State) : State → Prop where
  /-- No event is pending. -/
  | waits (hin : s.hostInput = []) : StepCase s s
  /-- A frame, on FRAME_IN or from a line. -/
  | frame {bytes : List Byte} {rest : List HostEvent} {t : State} (hin : PresentsFrame s bytes rest)
      (hb : s.boot = .running) (h : runFrame bytes { s with hostInput := rest } = .next t) : StepCase s t
  /-- A blank line. -/
  | skippedLine {text : Text} {rest : List HostEvent} (hin : s.hostInput = .line text :: rest) (hb : s.boot = .running)
      (hf : frontEnd text = .skip) : StepCase s { s with hostInput := rest }
  /-- A line the front end rejects. -/
  | rejectedLine {text : Text} {rest : List HostEvent} (hin : s.hostInput = .line text :: rest) (hb : s.boot = .running)
      (hf : frontEnd text = .badHex) : StepCase s ({ s with hostInput := rest }.raise (.malformed .hex))
  /-- A transport event. -/
  | transport {rest : List HostEvent} (hin : s.hostInput = .transportIn :: rest) :
      StepCase s ({ s with hostInput := rest }.afterPort (.faultOut s.actionable))
  /-- A status read. -/
  | statusRead {rest : List HostEvent} (hin : s.hostInput = .statusRead :: rest) :
      StepCase s ({ s with hostInput := rest }.afterPort (.statusRead s.statusRegister))
  /-- A reset. -/
  | reset {rest : List HostEvent} (hin : s.hostInput = .reset :: rest) :
      StepCase s { s with hostInput := rest }.takeReset
  /-- The registry load of boot. -/
  | registryLoad {reg : Registry} {rest : List HostEvent} (hin : s.hostInput = .loadRegistry (some reg) :: rest)
      (hb : s.boot = .awaitingRegistry) :
      StepCase s { s with registry := reg, boot := .awaitingReset, hostInput := rest }

/-- A line that is taken has been skipped, rejected, or run as a frame, after boot (42_dispatch.md R149). -/
theorem acceptLine_next {text : Text} {s t : State} (h : acceptLine text s = .next t) :
    s.boot = .running ∧
      ((frontEnd text = .skip ∧ t = s) ∨ (frontEnd text = .badHex ∧ t = s.raise (.malformed .hex)) ∨
        ∃ bytes, frontEnd text = .frame bytes ∧ runFrame bytes s = .next t) := by
  unfold acceptLine at h
  split at h
  case isFalse => cases h
  case isTrue hb =>
    refine ⟨hb, ?_⟩
    split at h
    case h_1 hf => exact .inl ⟨hf, (Host.Outcome.next.inj h).symm⟩
    case h_2 hf => exact .inr (.inl ⟨hf, (Host.Outcome.next.inj h).symm⟩)
    case h_3 bytes hf => exact .inr (.inr ⟨bytes, hf, h⟩)

/-- A frame on FRAME_IN that is taken runs, after boot (70_reset_and_hazards.md R192). -/
theorem acceptFrame_next {bytes : List Byte} {s t : State} (h : acceptFrame bytes s = .next t) :
    s.boot = .running ∧ runFrame bytes s = .next t := by
  unfold acceptFrame at h
  split at h
  case isTrue hb => exact ⟨hb, h⟩
  case isFalse => cases h

/-- A registry load that is taken is the one at boot, and loaded something (60_exceptions.md R178). -/
theorem acceptRegistry_next {loaded : Option Registry} {s t : State} (h : acceptRegistry loaded s = .next t) :
    s.boot = .awaitingRegistry ∧ ∃ reg, loaded = some reg ∧ t = { s with registry := reg, boot := .awaitingReset } := by
  unfold acceptRegistry at h
  split at h
  case isFalse => cases h
  case isTrue hb =>
    cases loaded with
    | none => cases h
    | some reg => exact ⟨hb, reg, rfl, (Host.Outcome.next.inj h).symm⟩

/-- Every step that has a next state is one of the cases. -/
theorem step_next {s t : State} (h : step s = .next t) : StepCase s t := by
  cases hin : s.hostInput with
  | nil =>
    have hw : step s = .next s := by unfold step; rw [hin]
    cases hw.symm.trans h
    exact .waits hin
  | cons e rest =>
    rw [step_cons hin] at h
    cases e with
    | frameIn bytes =>
      obtain ⟨hb, hr⟩ := acceptFrame_next h
      exact .frame (.inl hin) hb hr
    | line text =>
      obtain ⟨hb, ⟨hf, rfl⟩ | ⟨hf, rfl⟩ | ⟨bytes, hf, hr⟩⟩ := acceptLine_next h
      · exact .skippedLine hin hb hf
      · exact .rejectedLine hin hb hf
      · exact .frame (.inr ⟨text, hin, hf⟩) hb hr
    | transportIn => cases h; exact .transport hin
    | statusRead => cases h; exact .statusRead hin
    | reset => cases h; exact .reset hin
    | loadRegistry loaded =>
      obtain ⟨hb, reg, rfl, rfl⟩ := acceptRegistry_next h
      exact .registryLoad hin hb

/-- A frame first in line is no reset. -/
theorem presentsFrame_ne_reset {s : State} {bytes : List Byte} {rest : List HostEvent} (h : PresentsFrame s bytes rest)
    (rest' : List HostEvent) : s.hostInput ≠ .reset :: rest' := by
  rcases h with h | ⟨text, h, -⟩ <;> simp [h]

/-! ### SEEN_VALID -/

/-- What a step does to SEEN_VALID: a RECORD outcome leaves and it is set, a reset is taken and it is cleared with no
output, or neither happens and it keeps its value. -/
theorem step_seenValid_cases {s t : State} (h : step s = .next t) :
    (.outcome .record ∈ newOutputs s t ∧ (∀ rest, s.hostInput ≠ .reset :: rest) ∧ t.seenValid = true) ∨
    (newOutputs s t = [] ∧ (∃ rest, s.hostInput = .reset :: rest) ∧ t.seenValid = false) ∨
    (.outcome .record ∉ newOutputs s t ∧ (∀ rest, s.hostInput ≠ .reset :: rest) ∧ t.seenValid = s.seenValid) := by
  cases step_next h with
  | frame hin _ hrun =>
    obtain ⟨r, rfl⟩ | ⟨o, ho, rfl⟩ := runFrame_record_or_drop hrun
    · refine .inl ⟨?_, presentsFrame_ne_reset hin, rfl⟩
      rw [newOutputs_of (es := [.regLookup r.icao r.registry, .outcome .record, .recordOut r]) rfl]
      simp
    · refine .inr (.inr ⟨?_, presentsFrame_ne_reset hin, rfl⟩)
      rw [newOutputs_of (es := [.outcome o]) rfl]
      simpa using ho.symm
  | reset hin => exact .inr (.inl ⟨newOutputs_of (by simp), ⟨_, hin⟩, rfl⟩)
  | waits hin | skippedLine hin | rejectedLine hin | transport hin | statusRead hin | registryLoad hin =>
    exact .inr (.inr ⟨by simp [newOutputs, State.afterPort], by simp [hin], rfl⟩)

/-- Settles O42: of the cases of a step, only a RECORD outcome and a reset write SEEN_VALID, and they exclude each
other. -/
theorem seenValidIsWrittenByRecordAndResetOnly : Obligations.SeenValidIsWrittenByRecordAndResetOnly := by
  intro s t h
  obtain ⟨hrec, hno, hset⟩ | ⟨hout, ⟨rest, hin⟩, hclear⟩ | ⟨hrec, hno, hkeep⟩ := step_seenValid_cases h
  · exact ⟨fun _ => hset, fun ⟨rest, hin⟩ => absurd hin (hno rest), fun hn => absurd hrec hn⟩
  · exact ⟨by simp [hout], fun _ => hclear, fun _ hno => absurd hin (hno rest)⟩
  · exact ⟨fun hr => absurd hr hrec, fun ⟨rest, hin⟩ => absurd hin (hno rest), fun _ _ => hkeep⟩

/-! ### CHARSET -/

/-- Settles O10: the table is a constant, so each clause is a check of its entries. -/
theorem charsetEntriesAreTheSourcesString : Obligations.CharsetEntriesAreTheSourcesString :=
  ⟨charset_length, rfl, by decide, by decide, by decide⟩

end Sys2Proof.Proofs
end

section
/-! PROOF. The common output boundary (20_memory.md R48, R49): a schedule for every interleaving. -/

namespace Sys2Proof.Proofs

open Sys2Proof.Machine Sys2Proof.Laws

/-- After a step that answers a next state, the remaining steps are taken from it. -/
theorem systemSteps_succ {sys sys' : System} (h : systemStep sys = .next sys') (n : ℕ) :
    systemSteps (n + 1) sys = systemSteps n sys' := by
  rw [systemSteps, h]

/-- The schedule that lets the outputs of `order` reach the boundary one by one. -/
def deliveries (order : List (ℕ × PortEvent)) : List SystemMove :=
  order.map fun p => .deliver p.1

@[simp] theorem deliveries_nil : deliveries [] = [] := rfl

@[simp] theorem deliveries_cons (p : ℕ × PortEvent) (order : List (ℕ × PortEvent)) :
    deliveries (p :: order) = .deliver p.1 :: deliveries order := rfl

@[simp] theorem deliveries_length (order : List (ℕ × PortEvent)) : (deliveries order).length = order.length :=
  List.length_map _

/-- A delivery lets the next output of an existing instance reach the boundary. -/
theorem deliver_eq_next {sys : System} {k : ℕ} {c : Instance} {e : PortEvent} (hc : sys.cores[k]? = some c)
    (he : c.portLog[(sys.outputsOf k).length]? = some e) :
    sys.deliver k = .next { sys with boundary := sys.boundary ++ [(k, e)] } := by
  unfold System.deliver
  simp [hc, he]

/-- An output that stands next at an extended boundary, whose outputs of `k` are a first part of `k`'s log, is the next
one in that log. -/
theorem portLog_getElem?_of_outputsOf_prefix {sys : System} {k : ℕ} {c : Instance} {e : PortEvent}
    {order : List (ℕ × PortEvent)}
    (h : ({ sys with boundary := sys.boundary ++ (k, e) :: order } : System).outputsOf k <+: c.portLog) :
    c.portLog[(sys.outputsOf k).length]? = some e := by
  obtain ⟨later, hlog⟩ := h
  rw [← hlog]
  simp [System.outputsOf]

/-- When every instance's outputs, at the boundary extended by `order`, are a first part of its log, delivering `order`
reaches that boundary and changes nothing else. The boundary is extended at its end, so the induction is over what is
still to be delivered, for every boundary. -/
theorem systemSteps_deliveries (order : List (ℕ × PortEvent)) (sys : System)
    (hcores : ∀ p ∈ order, p.1 < sys.cores.length)
    (hlogs : ∀ k c, sys.cores[k]? = some c →
      ({ sys with boundary := sys.boundary ++ order } : System).outputsOf k <+: c.portLog) :
    systemSteps order.length { sys with schedule := deliveries order } =
      .next { sys with schedule := [], boundary := sys.boundary ++ order } := by
  induction order generalizing sys with
  | nil => simp [systemSteps]
  | cons p rest ih =>
    obtain ⟨k, e⟩ := p
    obtain ⟨hk, hrest⟩ := List.forall_mem_cons.mp hcores
    have hc : sys.cores[k]? = some sys.cores[k] := List.getElem?_eq_getElem hk
    have hstep : systemStep { sys with schedule := deliveries ((k, e) :: rest) } =
        .next { sys with schedule := deliveries rest, boundary := sys.boundary ++ [(k, e)] } :=
      deliver_eq_next (sys := { sys with schedule := deliveries rest }) hc
        (portLog_getElem?_of_outputsOf_prefix (hlogs k _ hc))
    have hgo := ih { sys with boundary := sys.boundary ++ [(k, e)] } hrest (by simpa using hlogs)
    rw [List.length_cons, systemSteps_succ hstep]
    simpa using hgo

/-- Settles O60: the schedule that delivers the outputs in the given order reaches it, from an empty boundary. -/
theorem everyInterleavingIsAdmitted : Obligations.EveryInterleavingIsAdmitted := by
  intro reg cores order hcores hlogs
  refine ⟨deliveries order, ?_⟩
  rw [deliveries_length]
  exact systemSteps_deliveries order ⟨reg, cores, [], []⟩ hcores hlogs

end Sys2Proof.Proofs
end

section
/-! PROOF. The text front end (30_encoding.md R68, 42_dispatch.md R149): it accepts the grammar's lines and no others, and
what a step does with a line. -/

namespace Sys2Proof.Proofs

open Sys2Proof.Machine Sys2Proof.Laws

/-! ### Characters -/

/-- The front end's blanks are the grammar's. -/
theorem isBlank_iff (c : Char) : isBlank c = true ↔ IsWs c := by
  simp [isBlank, IsWs, or_assoc]

/-- The front end reads no digit beyond `f`. -/
theorem toNat_lt_of_hexDigit {c : Char} {v : BitVec 4} (h : hexDigit c = some v) : c.toNat < 103 := by
  by_contra hge
  have hnone : hexDigit c = none := by
    unfold hexDigit
    dsimp only
    rw [if_neg (by omega), if_neg (by omega), if_neg (by omega)]
  simp [hnone] at h

/-- The front end's hex digits and their values are the grammar's. The digits lie below character 103, and there they are
compared one by one. -/
theorem hexDigit_eq_some_iff (c : Char) (v : BitVec 4) : hexDigit c = some v ↔ IsHexDigit c v := by
  constructor
  · intro h
    have below : ∀ n < 103, ∀ v, hexDigit (Char.ofNat n) = some v → IsHexDigit (Char.ofNat n) v := by
      unfold IsHexDigit
      decide +kernel
    rw [← Char.ofNat_toNat c] at h ⊢
    exact below _ (by simpa using toNat_lt_of_hexDigit h) v h
  · have listed : ∀ v : BitVec 4,
        ['0', '1', '2', '3', '4', '5', '6', '7', '8', '9', 'A', 'B', 'C', 'D', 'E', 'F'][v.toNat]?.bind hexDigit
          = some v ∧
        ['0', '1', '2', '3', '4', '5', '6', '7', '8', '9', 'a', 'b', 'c', 'd', 'e', 'f'][v.toNat]?.bind hexDigit
          = some v := by
      decide
    obtain ⟨upper, lower⟩ := listed v
    rintro (h | h)
    · rwa [h] at upper
    · rwa [h] at lower

/-- A hex digit is neither a blank nor one of the characters that frame a line. -/
theorem hexDigit_distinct {c : Char} (h : (hexDigit c).isSome) : ¬ IsWs c ∧ c ≠ '*' ∧ c ≠ ';' := by
  refine ⟨?_, ?_, ?_⟩
  · rintro (rfl | rfl | rfl) <;> exact absurd h (by decide)
  · rintro rfl; exact absurd h (by decide)
  · rintro rfl; exact absurd h (by decide)

/-! ### Hex pairs -/

theorem hexPairs_nil (bytes : List Byte) : HexPairs [] bytes ↔ bytes = [] := by
  constructor
  · rintro ⟨hlen, -⟩
    exact List.length_eq_zero_iff.mp (by simpa using hlen)
  · rintro rfl
    exact ⟨rfl, by simp⟩

theorem not_hexPairs_singleton (c : Char) (bytes : List Byte) : ¬ HexPairs [c] bytes := by
  rintro ⟨hlen, -⟩
  rw [List.length_singleton] at hlen
  omega

/-- The first pair is byte 0, and the rest are the pairs of the other bytes. -/
theorem hexPairs_cons_cons (c d : Char) (rest : Text) (bytes : List Byte) :
    HexPairs (c :: d :: rest) bytes ↔
      ∃ x y bs, bytes = (x ++ y) :: bs ∧ IsHexDigit c x ∧ IsHexDigit d y ∧ HexPairs rest bs := by
  constructor
  · rintro ⟨hlen, hpairs⟩
    cases bytes with
    | nil => simp at hlen
    | cons b bs =>
      obtain ⟨c', d', x, y, hc, hd, hx, hy, rfl⟩ := hpairs 0 b rfl
      cases hc
      cases hd
      refine ⟨x, y, bs, rfl, hx, hy, ?_, fun k b hb => hpairs (k + 1) b hb⟩
      simp only [List.length_cons] at hlen
      omega
  · rintro ⟨x, y, bs, rfl, hx, hy, hlen, hpairs⟩
    refine ⟨by simp only [List.length_cons]; omega, fun k b hb => ?_⟩
    cases k with
    | zero =>
      cases hb
      exact ⟨c, d, x, y, rfl, rfl, hx, hy, rfl⟩
    | succ k => exact hpairs k b hb

/-- The front end reads a pair as a byte when both are digits and the rest can be read. -/
theorem hexBytes_cons_cons (c d : Char) (rest : Text) (bytes : List Byte) :
    hexBytes (c :: d :: rest) = some bytes ↔
      ∃ x y bs, bytes = (x ++ y) :: bs ∧ hexDigit c = some x ∧ hexDigit d = some y ∧ hexBytes rest = some bs := by
  rw [hexBytes]
  cases hexDigit c <;> cases hexDigit d <;> cases hexBytes rest <;> simp [eq_comm]

/-- The front end reads exactly the texts of hex pairs, as the bytes of the pairs. -/
theorem hexBytes_eq_some_iff (t : Text) (bytes : List Byte) : hexBytes t = some bytes ↔ HexPairs t bytes := by
  induction t using List.twoStepInduction generalizing bytes with
  | nil => simp [hexBytes, hexPairs_nil, eq_comm]
  | singleton c => simp [hexBytes, not_hexPairs_singleton]
  | cons_cons c d rest ih _ => simp only [hexBytes_cons_cons, hexPairs_cons_cons, hexDigit_eq_some_iff, ih]

/-- A text the front end reads as bytes holds hex digits only. -/
theorem isSome_hexDigit_of_mem {t : Text} {bytes : List Byte} (h : hexBytes t = some bytes) :
    ∀ c ∈ t, (hexDigit c).isSome := by
  induction t using List.twoStepInduction generalizing bytes with
  | nil => simp
  | singleton c => simp [hexBytes] at h
  | cons_cons c d rest ih _ =>
    obtain ⟨x, y, bs, -, hc, hd, hrest⟩ := (hexBytes_cons_cons c d rest bytes).mp h
    simp only [List.forall_mem_cons]
    exact ⟨by simp [hc], by simp [hd], ih hrest⟩

/-- A text read as bytes is empty exactly when there are none. -/
theorem eq_nil_iff_of_hexBytes {t : Text} {bytes : List Byte} (h : hexBytes t = some bytes) : t = [] ↔ bytes = [] := by
  have hlen := ((hexBytes_eq_some_iff t bytes).mp h).1
  rw [← List.length_eq_zero_iff, ← List.length_eq_zero_iff]
  omega

/-! ### What surrounds the pairs -/

/-- Trimming takes blanks off both ends. -/
theorem trimBlanks_split (t : Text) :
    ∃ before after, t = before ++ trimBlanks t ++ after ∧ (∀ c ∈ before, IsWs c) ∧ ∀ c ∈ after, IsWs c := by
  refine ⟨t.takeWhile isBlank, (t.dropWhile isBlank).rtakeWhile isBlank, ?_,
    fun c hc => (isBlank_iff c).mp (List.mem_takeWhile_imp hc), fun c hc => (isBlank_iff c).mp (List.mem_rtakeWhile_imp hc)⟩
  change t = _ ++ (t.dropWhile isBlank).rdropWhile isBlank ++ _
  rw [List.append_assoc, List.rdropWhile_append_rtakeWhile, List.takeWhile_append_dropWhile]

/-- Trimming takes off all the blanks around a text that holds none. -/
theorem trimBlanks_surrounded {before core after : Text} (hbefore : ∀ c ∈ before, IsWs c) (hafter : ∀ c ∈ after, IsWs c)
    (hcore : ∀ c ∈ core, ¬ IsWs c) (hne : core ≠ []) : trimBlanks (before ++ core ++ after) = core := by
  simp only [← isBlank_iff] at hbefore hafter hcore
  have hfront : (before ++ core ++ after).dropWhile isBlank = core ++ after := by
    obtain ⟨c, cs, rfl⟩ := List.exists_cons_of_ne_nil hne
    rw [List.append_assoc, List.dropWhile_append_of_pos hbefore, List.cons_append,
      List.dropWhile_cons_of_neg (hcore c List.mem_cons_self)]
  have hback : (core ++ after).reverse.dropWhile isBlank = core.reverse := by
    rw [List.reverse_append, List.dropWhile_append_of_pos (by simpa using hafter), List.dropWhile_eq_self_iff]
    exact fun hl => hcore _ (List.mem_reverse.mp (List.getElem_mem hl))
  rw [trimBlanks, hfront, hback, List.reverse_reverse]

/-- Nothing is left exactly of a text of blanks. -/
theorem trimBlanks_eq_nil_iff (t : Text) : trimBlanks t = [] ↔ ∀ c ∈ t, IsWs c := by
  constructor
  · intro h
    obtain ⟨before, after, ht, hbefore, hafter⟩ := trimBlanks_split t
    rw [ht, h, List.append_nil]
    exact fun c hc => (List.mem_append.mp hc).elim (hbefore c) (hafter c)
  · intro h
    have hnil : t.dropWhile isBlank = [] := List.dropWhile_eq_nil_iff.mpr fun c hc => (isBlank_iff c).mpr (h c hc)
    rw [trimBlanks, hnil]
    rfl

theorem withoutLast_split (c : Char) (t : Text) : ∃ last, t = withoutLast c t ++ last ∧ (last = [] ∨ last = [c]) := by
  unfold withoutLast
  split
  case isTrue h => exact ⟨[c], (List.dropLast_append_getLast? c h).symm, .inr rfl⟩
  case isFalse => exact ⟨[], (List.append_nil t).symm, .inl rfl⟩

theorem withoutLast_of_notMem {c : Char} {t : Text} (h : c ∉ t) : withoutLast c t = t :=
  if_neg fun hlast => h (List.mem_of_getLast? hlast)

theorem withoutLast_append_singleton (c : Char) (t : Text) : withoutLast c (t ++ [c]) = t := by
  simp [withoutLast]

theorem withoutStar_split (t : Text) : ∃ star, t = star ++ withoutStar t ∧ (star = [] ∨ star = ['*']) := by
  unfold withoutStar
  split
  · exact ⟨['*'], rfl, .inr rfl⟩
  · exact ⟨[], rfl, .inl rfl⟩

theorem withoutStar_of_notMem {t : Text} (h : '*' ∉ t) : withoutStar t = t := by
  unfold withoutStar
  split
  · simp at h
  · rfl

/-- What the front end reads as hex pairs. -/
def hexPart (t : Text) : Text := withoutLast ';' (withoutStar (trimBlanks t))

/-- A line is its hex part with what the grammar allows around it. -/
theorem hexPart_split (t : Text) :
    ∃ before star semi after, t = before ++ star ++ hexPart t ++ semi ++ after ∧
      (∀ c ∈ before, IsWs c) ∧ (∀ c ∈ after, IsWs c) ∧ (star = [] ∨ star = ['*']) ∧ (semi = [] ∨ semi = [';']) := by
  obtain ⟨before, after, ht, hbefore, hafter⟩ := trimBlanks_split t
  obtain ⟨star, htrim, hstar⟩ := withoutStar_split (trimBlanks t)
  obtain ⟨semi, hpart, hsemi⟩ := withoutLast_split ';' (withoutStar (trimBlanks t))
  refine ⟨before, star, semi, after, ?_, hbefore, hafter, hstar, hsemi⟩
  calc t = before ++ trimBlanks t ++ after := ht
    _ = before ++ (star ++ (hexPart t ++ semi)) ++ after := by rw [hexPart, ← hpart, ← htrim]
    _ = before ++ star ++ hexPart t ++ semi ++ after := by simp only [List.append_assoc]

/-- The hex part of a line of hex digits, framed as the grammar allows, is the digits. -/
theorem hexPart_surrounded {before star body semi after : Text} (hbefore : ∀ c ∈ before, IsWs c)
    (hafter : ∀ c ∈ after, IsWs c) (hstar : star = [] ∨ star = ['*']) (hsemi : semi = [] ∨ semi = [';'])
    (hbody : ∀ c ∈ body, (hexDigit c).isSome) (hne : body ≠ []) :
    hexPart (before ++ star ++ body ++ semi ++ after) = body := by
  have hnostar : '*' ∉ body := fun h => (hexDigit_distinct (hbody _ h)).2.1 rfl
  have hnosemi : ';' ∉ body := fun h => (hexDigit_distinct (hbody _ h)).2.2 rfl
  have htrim : trimBlanks (before ++ star ++ body ++ semi ++ after) = star ++ body ++ semi := by
    have hcore : ∀ c ∈ star ++ body ++ semi, ¬ IsWs c := by
      simp only [List.forall_mem_append]
      refine ⟨⟨?_, fun c hc => (hexDigit_distinct (hbody c hc)).1⟩, ?_⟩
      · rcases hstar with rfl | rfl <;> simp [IsWs]
      · rcases hsemi with rfl | rfl <;> simp [IsWs]
    simpa only [List.append_assoc] using trimBlanks_surrounded hbefore hafter hcore (by simp [hne])
  have hunstar : withoutStar (star ++ body ++ semi) = body ++ semi := by
    rcases hstar with rfl | rfl
    · refine withoutStar_of_notMem ?_
      rcases hsemi with rfl | rfl <;> simpa using hnostar
    · rfl
  rw [hexPart, htrim, hunstar]
  rcases hsemi with rfl | rfl
  · rw [List.append_nil, withoutLast_of_notMem hnosemi]
  · exact withoutLast_append_singleton ';' body

/-- The grammar's lines are those whose hex part can be read and is not empty. -/
theorem lineGrammar_iff (t : Text) (bytes : List Byte) :
    LineGrammar t bytes ↔ hexBytes (hexPart t) = some bytes ∧ bytes ≠ [] := by
  constructor
  · rintro ⟨before, star, body, semi, after, rfl, hbefore, hafter, hstar, hsemi, hpairs, hne⟩
    have hread := (hexBytes_eq_some_iff body bytes).mpr hpairs
    have hbody : body ≠ [] := fun h => hne ((eq_nil_iff_of_hexBytes hread).mp h)
    rw [hexPart_surrounded hbefore hafter hstar hsemi (isSome_hexDigit_of_mem hread) hbody]
    exact ⟨hread, hne⟩
  · rintro ⟨hread, hne⟩
    obtain ⟨before, star, semi, after, ht, hbefore, hafter, hstar, hsemi⟩ := hexPart_split t
    exact ⟨before, star, hexPart t, semi, after, ht, hbefore, hafter, hstar, hsemi,
      (hexBytes_eq_some_iff _ bytes).mp hread, hne⟩

/-! ### The front end -/

/-- A final LF makes no difference. -/
theorem frontEnd_append_newline {t : Text} (hlf : '\n' ∉ t) : frontEnd (t ++ ['\n']) = frontEnd t := by
  unfold frontEnd
  rw [withoutLast_append_singleton, withoutLast_of_notMem hlf]

/-- The front end skips exactly the blank lines. -/
theorem frontEnd_eq_skip_iff {t : Text} (hlf : '\n' ∉ t) : frontEnd t = .skip ↔ ∀ c ∈ t, IsWs c := by
  rw [← trimBlanks_eq_nil_iff]
  unfold frontEnd
  rw [withoutLast_of_notMem hlf]
  dsimp only
  split
  case isTrue h => simp [h]
  case isFalse h =>
    refine iff_of_false ?_ h
    split
    · exact nofun
    · split <;> exact nofun

/-- The front end makes a frame of exactly the grammar's lines, with the bytes of their hex pairs. -/
theorem frontEnd_eq_frame_iff {t : Text} (hlf : '\n' ∉ t) (bytes : List Byte) :
    frontEnd t = .frame bytes ↔ LineGrammar t bytes := by
  have hempty : hexPart t = [] → ¬ (hexBytes (hexPart t) = some bytes ∧ bytes ≠ []) :=
    fun h ⟨hread, hne⟩ => hne ((eq_nil_iff_of_hexBytes hread).mp h)
  rw [lineGrammar_iff]
  unfold frontEnd
  rw [withoutLast_of_notMem hlf]
  dsimp only
  rw [← hexPart]
  split
  case isTrue h => exact iff_of_false nofun (hempty (by rw [hexPart, h]; rfl))
  case isFalse =>
    split
    case isTrue h => exact iff_of_false nofun (hempty h)
    case isFalse h =>
      split
      case h_1 read hread =>
        rw [hread]
        simp only [LineResult.frame.injEq, Option.some.injEq]
        exact ⟨fun heq => ⟨heq, heq ▸ fun hnil => h ((eq_nil_iff_of_hexBytes hread).mpr hnil)⟩, And.left⟩
      case h_2 hread => exact iff_of_false nofun (by simp [hread])

/-- A line that is not blank and not of the grammar is rejected. -/
theorem frontEnd_eq_badHex {t : Text} (hlf : '\n' ∉ t) (hnonblank : ∃ c ∈ t, ¬ IsWs c)
    (hgrammar : ∀ bytes, ¬ LineGrammar t bytes) : frontEnd t = .badHex := by
  cases hf : frontEnd t with
  | skip =>
    obtain ⟨c, hc, hws⟩ := hnonblank
    exact absurd ((frontEnd_eq_skip_iff hlf).mp hf c hc) hws
  | badHex => rfl
  | frame bytes => exact absurd ((frontEnd_eq_frame_iff hlf bytes).mp hf) (hgrammar bytes)

/-! ### A step that takes a line -/

/-- Every instruction completes: the checksum of its frame can be computed, and the fields of its class can be read. -/
theorem exec_completes (i : Instr) (s : State) : ∃ t, exec i s = .next t := by
  obtain ⟨c, hc⟩ := computeCrc_isSome (lenByType_cases i.df) (encode_length i)
  obtain ⟨hshort, hlong⟩ := encode_long_enough i
  obtain ⟨r, hr⟩ := classFields_isSome (minimalRecord s.registry i.icao) hshort hlong
  by_cases heq : c = i.crc
  · exact ⟨_, exec_of_valid (hc.trans (congrArg some heq)) hr⟩
  · have hverdict : frameVerdict (encode i) = some (.mismatch c i.crc) := by rw [frameVerdict_encode hc, if_neg heq]
    exact ⟨_, (exec_eq i s).trans (recordTransaction_mismatch hverdict)⟩

/-- Every frame transaction completes. -/
theorem runFrame_completes (bytes : List Byte) (s : State) : ∃ t, runFrame bytes s = .next t := by
  cases hd : decode bytes with
  | ok i => exact runFrame_ok hd s ▸ exec_completes i s
  | error e => exact ⟨_, runFrame_error hd s⟩

/-- A frame transaction gives exactly one outcome. -/
theorem runFrame_one_outcome {bytes : List Byte} {s t : State} (h : runFrame bytes s = .next t) :
    ∃ o, (newOutputs s t).filter PortEvent.isOutcome = [.outcome o] := by
  obtain ⟨r, rfl⟩ | ⟨o, -, rfl⟩ := runFrame_record_or_drop h
  · exact ⟨.record, by
      rw [newOutputs_of (es := [.regLookup r.icao r.registry, .outcome .record, .recordOut r]) rfl]; rfl⟩
  · exact ⟨o, by rw [newOutputs_of (es := [.outcome o]) rfl]; rfl⟩

/-- A line the front end does not skip gives exactly one outcome. -/
theorem step_line_one_outcome {s : State} {line : Text} {rest : List HostEvent} (hin : s.hostInput = .line line :: rest)
    (hb : s.boot = .running) (hf : frontEnd line ≠ .skip) :
    ∃ t o, step s = .next t ∧ (newOutputs s t).filter PortEvent.isOutcome = [.outcome o] := by
  cases hfe : frontEnd line with
  | skip => exact absurd hfe hf
  | badHex => exact ⟨_, .malformed .hex, step_badHex hin hfe hb, by rw [newOutputs_of (es := [.outcome _]) rfl]; rfl⟩
  | frame bytes =>
    obtain ⟨t, ht⟩ := runFrame_completes bytes { s with hostInput := rest }
    obtain ⟨o, ho⟩ := runFrame_one_outcome ht
    exact ⟨t, o, (step_presentsFrame (.inr ⟨line, hin, hfe⟩) hb).trans ht, ho⟩

/-- Settles O34: a final LF makes no difference, the front end's three answers are the grammar, the blank lines and the
rest, and a step does with each what R149 says. -/
theorem linesAreFramesBlanksOrMalformed : Obligations.LinesAreFramesBlanksOrMalformed := by
  intro s text rest hb hlf hline
  obtain ⟨line, hin, hfe⟩ : ∃ line, s.hostInput = .line line :: rest ∧ frontEnd line = frontEnd text :=
    hline.elim (fun h => ⟨text, h, rfl⟩) fun h => ⟨text ++ ['\n'], h, frontEnd_append_newline hlf⟩
  refine ⟨fun bytes hgrammar => ?_, fun hblank => ?_, fun hnonblank hgrammar => ?_, fun hnonblank => ?_⟩
  · have hframe : frontEnd line = .frame bytes := hfe.trans ((frontEnd_eq_frame_iff hlf bytes).mpr hgrammar)
    have hrun := step_presentsFrame (.inr ⟨line, hin, hframe⟩) hb
    exact ⟨hrun, hrun.trans (step_presentsFrame (s := { s with hostInput := .frameIn bytes :: rest }) (.inl rfl) hb).symm⟩
  · exact step_skipped hin (hfe.trans ((frontEnd_eq_skip_iff hlf).mpr hblank)) hb
  · exact ⟨_, step_badHex hin (hfe.trans (frontEnd_eq_badHex hlf hnonblank hgrammar)) hb, rfl, rfl, rfl, rfl, rfl⟩
  · refine step_line_one_outcome hin hb fun hskip => ?_
    obtain ⟨c, hc, hws⟩ := hnonblank
    exact hws ((frontEnd_eq_skip_iff hlf).mp (hfe ▸ hskip) c hc)

end Sys2Proof.Proofs
end

section
/-! PROOF. The length rule and the checksum (40_crc.md R80 to R82): the loop of COMPUTE_CRC as a fold over the set bits. -/

namespace Sys2Proof.Proofs

open Sys2Proof.Machine Sys2Proof.Laws

/-! ### The length rule -/

/-- The long frames are those of the five types the source lists. -/
theorem lenByType_eq_112_iff (t : BitVec 5) : lenByType t = 112 ↔ t.toNat ∈ [16, 17, 19, 20, 21] := by
  rw [lenByType, Ne.ite_eq_left_iff (by decide)]
  simp [← BitVec.toNat_inj]

/-- Settles O12: the five types are the long ones, and a frame that is not long is short. -/
theorem lengthIs112ForFiveTypesOnly : Obligations.LengthIs112ForFiveTypesOnly := fun t =>
  ⟨(lenByType_eq_112_iff t).mpr,
    fun ht => (lenByType_cases t).resolve_right fun hlong => ht ((lenByType_eq_112_iff t).mp hlong)⟩

/-! ### The loop of COMPUTE_CRC -/

/-- The positions below `n` of the frame bits that are 1, in order. -/
def setBits (fb : List Byte) (n : ℕ) : List ℕ :=
  (List.range n).filter fun j => bitAt fb j = some true

/-- The exclusive or of the entries `j + off` of a table, for the positions `j` of a list. -/
def xorEntries (table : List (BitVec 24)) (off : ℕ) (positions : List ℕ) : BitVec 24 :=
  positions.foldl (fun acc j => acc ^^^ table.getD (j + off) 0) 0

/-- One bit more adds its position exactly when it is 1. -/
theorem setBits_succ (fb : List Byte) (n : ℕ) :
    setBits fb (n + 1) = setBits fb n ++ if bitAt fb n = some true then [n] else [] := by
  simp [setBits, List.range_succ, List.filter_singleton]

/-- One position more adds its entry. -/
theorem xorEntries_append_singleton (table : List (BitVec 24)) (off : ℕ) (positions : List ℕ) (j : ℕ) :
    xorEntries table off (positions ++ [j]) = xorEntries table off positions ^^^ table.getD (j + off) 0 := by
  simp [xorEntries]

/-- The loop XORs the entries of the set bits, as long as every bit is in the frame and every entry in the table. -/
theorem crcLoop_eq_xorEntries {table : List (BitVec 24)} {fb : List Byte} {off n : ℕ} (hb : n ≤ 8 * fb.length)
    (ht : n + off ≤ table.length) : crcLoop table fb off n = some (xorEntries table off (setBits fb n)) := by
  induction n with
  | zero => rfl
  | succ j ih =>
    have hacc := ih (by omega) (by omega)
    obtain ⟨b, hbit⟩ := bitAt_isSome (fb := fb) (j := j) (by omega)
    cases b with
    | false => simp [crcLoop, hacc, hbit, setBits_succ]
    | true =>
      have hentry : readCrcTable table (j + off) = some (table.getD (j + off) 0) := by
        rw [readCrcTable, List.getD_eq_getElem?_getD, List.getElem?_eq_getElem (by omega), Option.getD_some]
      simp [crcLoop, hacc, hbit, hentry, setBits_succ, xorEntries_append_singleton]

/-- The mask of R82 keeps a 24-bit word as it is. -/
theorem crcMask_eq_self (c : BitVec 24) : c &&& 0xFFFFFF = c :=
  BitVec.and_allOnes

/-- The checksum of a length-correct frame is the exclusive or of the entries of its set bits. -/
theorem computeCrc_eq_xorEntries {fb : List Byte} {len : ℕ} (hl : len = 56 ∨ len = 112) (h : 8 * fb.length = len) :
    computeCrc fb len = some (xorEntries crcTable (crcOffset len) (setBits fb len)) := by
  have hoff : len + crcOffset len ≤ crcTable.length := by
    rcases hl with rfl | rfl <;> simp [crcOffset, crcTable_length]
  rw [computeCrc, computeCrcWith, crcLoop_eq_xorEntries h.ge hoff, Option.map_some, crcMask_eq_self]

/-- Settles O13: the loop of COMPUTE_CRC, by induction on the number of bits read; the final mask changes nothing. -/
theorem computeCrcXorsTheEntriesOfTheSetBits : Obligations.ComputeCrcXorsTheEntriesOfTheSetBits :=
  fun _ _ => computeCrc_eq_xorEntries

end Sys2Proof.Proofs
end

section
/-! PROOF. The extractors (41_extract.md): the heading of a frame and the laws of R112. -/

namespace Sys2Proof.Proofs

open Sys2Proof.Machine Sys2Proof.Laws

/-- An integer below `2^53` is exact in binary64 (41_extract.md R111). -/
theorem binary64Value_ofNat {n : ℕ} (hn : n < 2 ^ 53) : binary64Value (binary64OfNat n) = some (n : ℚ) := by
  simpa [binary64OfNat] using binary64Value_ofScaled n 0 hn (Nat.zero_le _)

/-- A pattern that is an integer's has the integer as its value. -/
theorem value_eq_of_eq_ofNat {h : Binary64} {v : ℚ} {n : ℕ} (hn : n < 2 ^ 53) (hv : binary64Value h = some v)
    (heq : h = binary64OfNat n) : v = n := by
  rw [heq, binary64Value_ofNat hn] at hv
  exact (Option.some.inj hv).symm

/-- The heading of a frame depends on its velocity components alone (41_extract.md R112, law H2). -/
theorem heading_of_components {fb : List Byte} {ew ns : ℤ} (hc : velocityComponents fb = some (ew, ns)) :
    heading fb = some (Config.headingDeg ew ns) := by
  rw [heading, hc, Option.map_some]

/-- Settles O21: H1, H3 and H4 are the laws HEADING_DEG is known to meet, H4's patterns read as the values they stand for;
H2 is that the components alone determine the heading. -/
theorem headingsObeyTheirLaws : Obligations.HeadingsObeyTheirLaws := by
  intro fb ew ns hc
  obtain ⟨⟨v, hv, hlo, hhi, hnear⟩, north, east, south, west⟩ := headingDeg_lawful ew ns
  refine ⟨Config.headingDeg ew ns, v, heading_of_components hc, hv, hlo, hhi, fun _ => heading_of_components, hnear,
    fun he hn => ?north, fun he hn => ?east, fun he hn => ?south, fun he hn => ?west⟩
  case north => simpa using value_eq_of_eq_ofNat (by norm_num) hv (north he hn)
  case east => exact value_eq_of_eq_ofNat (by norm_num) hv (east he hn)
  case south => exact value_eq_of_eq_ofNat (by norm_num) hv (south he hn)
  case west => exact value_eq_of_eq_ofNat (by norm_num) hv (west he hn)

end Sys2Proof.Proofs
end

section
/-! PROOF. Dispatch and the classes (42_dispatch.md): the class of a key (R140), the record of each class (R141 to
R146), the registry lookup (R147) and the output object (R150, R151). -/

namespace Sys2Proof.Proofs

open Sys2Proof.Machine Sys2Proof.Laws

/-! ### The class of a key -/

/-- The dispatch class of a key, by the numbers of its type, TC and ST (30_encoding.md R64, 42_dispatch.md R140). -/
def classOfKey (df tc st : ℕ) : DispatchClass :=
  if df = 0 ∨ df = 4 ∨ df = 16 ∨ df = 20 then .alt13
  else if df = 17 then
    if 1 ≤ tc ∧ tc ≤ 4 then .ident
    else if tc = 19 ∧ (st = 1 ∨ st = 2) then .posvel
    else if tc = 19 ∧ (st = 3 ∨ st = 4) then .pos
    else .min
  else .min

theorem classOfKey_eq_alt13_iff (df tc st : ℕ) : classOfKey df tc st = .alt13 ↔ df ∈ [0, 4, 16, 20] := by
  unfold classOfKey
  split_ifs <;> simp <;> omega

theorem classOfKey_eq_ident_iff (df tc st : ℕ) : classOfKey df tc st = .ident ↔ df = 17 ∧ 1 ≤ tc ∧ tc ≤ 4 := by
  unfold classOfKey
  split_ifs <;> simp <;> omega

theorem classOfKey_eq_posvel_iff (df tc st : ℕ) :
    classOfKey df tc st = .posvel ↔ df = 17 ∧ tc = 19 ∧ (st = 1 ∨ st = 2) := by
  unfold classOfKey
  split_ifs <;> simp <;> omega

theorem classOfKey_eq_pos_iff (df tc st : ℕ) :
    classOfKey df tc st = .pos ↔ df = 17 ∧ tc = 19 ∧ (st = 3 ∨ st = 4) := by
  unfold classOfKey
  split_ifs <;> simp <;> omega

/-- The rows of TC 19 have the class of their ST. -/
theorem cls_of_decodeSubtype {fs : BitVec 3} {icao : BitVec 24} {st : BitVec 3} {body : BitVec 48} {crc : BitVec 24}
    {i : Instr} (h : decodeSubtype fs icao st body crc = some i) : i.cls = classOfKey 17 19 st.toNat := by
  unfold decodeSubtype at h
  split at h
  case h_9 => cases h
  all_goals rename_i hst; cases h; rw [hst]; rfl

/-- The rows of type 17 have the class of their TC and ST. -/
theorem cls_of_decodeTypeCode {fs : BitVec 3} {icao : BitVec 24} {tc : BitVec 5} {st : BitVec 3} {body : BitVec 48}
    {crc : BitVec 24} {i : Instr} (h : decodeTypeCode fs icao tc st body crc = some i) :
    i.cls = classOfKey 17 tc.toNat st.toNat := by
  unfold decodeTypeCode at h
  split at h
  case h_20 htc => rw [htc]; exact cls_of_decodeSubtype h
  case h_33 => cases h
  all_goals rename_i htc; cases h; rw [htc]; rfl

/-- The rows of a short frame have the class of their type, whatever stands where a type 17 frame has TC and ST. -/
theorem cls_of_decodeShort {df : BitVec 5} {fs : BitVec 3} {icao crc : BitVec 24} {i : Instr}
    (h : decodeShort df fs icao crc = some i) (tc st : ℕ) : i.cls = classOfKey df.toNat tc st := by
  unfold decodeShort at h
  split at h
  case h_28 => cases h
  all_goals rename_i hdf; cases h; rw [hdf]; rfl

/-- The rows of a long frame have the class of their key, byte 4 being TC and ST. -/
theorem cls_of_decodeLong {df : BitVec 5} {fs : BitVec 3} {icao : BitVec 24} {b4 : Byte} {body : BitVec 48}
    {crc : BitVec 24} {i : Instr} (h : decodeLong df fs icao b4 body crc = some i) :
    i.cls = classOfKey df.toNat (typeBits b4).toNat (low3Bits b4).toNat := by
  unfold decodeLong at h
  split at h
  case h_2 hdf => rw [hdf]; exact cls_of_decodeTypeCode h
  case h_6 => cases h
  all_goals rename_i hdf; cases h; rw [hdf]; rfl

/-- A frame that decodes runs in the class of its key. -/
theorem cls_of_decode {b0 b1 b2 b3 b4 : Byte} {rest : List Byte} {i : Instr}
    (h : decode (b0 :: b1 :: b2 :: b3 :: b4 :: rest) = .ok i) :
    i.cls = classOfKey (typeBits b0).toNat (typeBits b4).toNat (low3Bits b4).toNat := by
  obtain ⟨_, _, _, _, _, _, _, hbytes, hrow⟩ | ⟨_, _, _, _, _, _, _, _, _, _, _, _, _, _, hbytes, hrow⟩ :=
    decode_ok_cases h
  · cases hbytes; exact cls_of_decodeShort hrow _ _
  · cases hbytes; exact cls_of_decodeLong hrow

/-- DISPATCH_CLASS reads the class of the key from the latch (42_dispatch.md R140). -/
theorem dispatchClass_eq_classOfKey (b0 b1 b2 b3 b4 : Byte) (rest : List Byte) :
    dispatchClass (b0 :: b1 :: b2 :: b3 :: b4 :: rest) =
      some (classOfKey (typeBits b0).toNat (typeBits b4).toNat (low3Bits b4).toNat) := by
  have htype : frameType (b0 :: b1 :: b2 :: b3 :: b4 :: rest) = some (typeBits b0) := rfl
  have hme : meSubtype (b0 :: b1 :: b2 :: b3 :: b4 :: rest) = some (typeBits b4, low3Bits b4) := rfl
  unfold dispatchClass classOfKey
  simp only [htype, hme, ← BitVec.toNat_inj, apply_ite some]
  rfl

theorem typeBits_toNat (b : Byte) : (typeBits b).toNat = b.toNat / 8 := by
  have := b.isLt
  simp only [typeBits, BitVec.extractLsb'_toNat, Nat.shiftRight_eq_div_pow]
  omega

theorem low3Bits_toNat (b : Byte) : (low3Bits b).toNat = b.toNat % 8 := by
  simp [low3Bits]

/-- Settles O7: the decoder's row and DISPATCH_CLASS both have the class of the key, which is R64's by its numbers. -/
theorem dispatchClassFollowsTheKey : Obligations.DispatchClassFollowsTheKey := by
  intro b0 b1 b2 b3 b4 rest i h
  rw [dispatchClass_eq_classOfKey, cls_of_decode h, typeBits_toNat, typeBits_toNat, low3Bits_toNat]
  exact ⟨classOfKey_eq_alt13_iff .., classOfKey_eq_ident_iff .., classOfKey_eq_posvel_iff .., classOfKey_eq_pos_iff ..,
    rfl⟩

/-! ### Outputs -/

/-- What leaves on the ports after a RECORD outcome. -/
theorem newOutputs_afterRecord (s : State) (r : Record) :
    newOutputs s (s.afterRecord r) = [.regLookup r.icao r.registry, .outcome .record, .recordOut r] :=
  newOutputs_of rfl

/-- What leaves on the ports after a drop. -/
theorem newOutputs_afterDrop (s : State) (o : TxOutcome) : newOutputs s (s.afterDrop o) = [.outcome o] :=
  newOutputs_of rfl

/-! ### The registry lookup -/

/-- The class fields leave the ICAO address and the registry's answer as they are (42_dispatch.md R141 to R145). -/
theorem classFields_keeps {c : DispatchClass} {fb : List Byte} {r r' : Record} (h : classFields c fb r = some r') :
    r'.icao = r.icao ∧ r'.registry = r.registry := by
  cases c
  case min => cases h; exact ⟨rfl, rfl⟩
  all_goals
    dsimp only [classFields, alt13Fields, identFields, posvelFields, posFields] at h
    split at h
    · cases h; exact ⟨rfl, rfl⟩
    · cases h

/-- Settles O37: a record leaves with one lookup, whose answer the class fields do not touch; a drop leaves an outcome
alone. -/
theorem theRegistryIsConsultedOncePerRecord : Obligations.TheRegistryIsConsultedOncePerRecord := by
  intro i s t h
  obtain ⟨r, -, hr, rfl⟩ | ⟨c, e, -, rfl⟩ := exec_next h
  · obtain ⟨hicao, hreg⟩ := classFields_keeps hr
    have hlookup : r.registry = registryLookup s.registry r.icao := by rw [hreg, hicao]; rfl
    rw [newOutputs_afterRecord, hlookup]
    refine ⟨fun r' hmem => ?_, fun hnone => absurd ?_ (hnone r)⟩
    · obtain rfl : r' = r := by simpa using hmem
      exact ⟨hlookup, rfl⟩
    · simp
  · rw [newOutputs_afterDrop]
    exact ⟨by simp, fun _ => rfl⟩

/-! ### What a valid frame of each class completes with -/

/-- The state after a RECORD outcome is a completed transaction. -/
theorem completesWith_afterRecord (s : State) (r : Record) : CompletesWith s (s.afterRecord r) r := by
  unfold CompletesWith
  rw [newOutputs_afterRecord]
  exact ⟨rfl, rfl, rfl, rfl⟩

/-- A valid frame completes with the record of its class fields. -/
theorem exec_completesWith {i : Instr} {s : State} {r : Record} (h : CrcValid i)
    (hr : classFields i.cls (encode i) (minimalRecord s.registry i.icao) = some r) :
    ∃ t, exec i s = .next t ∧ CompletesWith s t r :=
  ⟨_, exec_of_valid h hr, completesWith_afterRecord s r⟩

/-- Settles O26: the class fields of MIN leave the minimal record as it is. -/
theorem minFramesEmitTheMinimalRecord : Obligations.MinFramesEmitTheMinimalRecord := by
  intro i s hmin h
  refine exec_completesWith h ?_
  rw [hmin]
  rfl

/-! ### The altitude of ALT13 -/

/-- The altitude of an 11-bit code is that of its number. -/
theorem altitudeOfCode_eq (n : BitVec 11) : altitudeOfCode n = feetOfCode n.toNat := by
  rw [altitudeOfCode, feetOfCode, Int.mul_comm]

/-- A frame whose bytes 2 and 3 are the low bytes of the ICAO operand has the altitude of that operand. -/
theorem alt13_of_bytes {fb : List Byte} {icao : BitVec 24} (h2 : byteAt fb 2 = some (icao.extractLsb' 8 8))
    (h3 : byteAt fb 3 = some (icao.extractLsb' 0 8)) : alt13 fb = some (alt13OfIcao icao) := by
  have hcode : ((icao.extractLsb' 8 8).extractLsb' 0 5 ++ (icao.extractLsb' 0 8).extractLsb' 7 1 ++
      (icao.extractLsb' 0 8).extractLsb' 5 1 ++ (icao.extractLsb' 0 8).extractLsb' 0 4 : BitVec (5 + 1 + 1 + 4)).toNat =
      icao.toNat / 256 % 32 * 64 + icao.toNat / 128 % 2 * 32 + icao.toNat / 32 % 2 * 16 + icao.toNat % 16 := by
    simp only [toNat_append_eq, BitVec.extractLsb'_toNat, Nat.shiftRight_eq_div_pow]
    omega
  unfold alt13 alt13OfIcao
  rw [h2, h3, ← hcode]
  simp [altitudeOfCode_eq, apply_ite some]

/-- Settles O22: bytes 2 and 3 of a short and of a long frame are the low bytes of the ICAO operand, and ALT13 reads
nothing else. -/
theorem alt13FramesEmitTheirAltitude : Obligations.Alt13FramesEmitTheirAltitude := by
  intro fs icao me crc s
  refine ⟨?_, ?_, ?_, ?_⟩ <;> exact fun h => exec_completesWith h (alt13Fields_of (alt13_of_bytes rfl rfl))

/-! ### The body of a long frame -/

/-- Bits of a part of a word are bits of the word. -/
theorem extractLsb'_of_extractLsb' {w : ℕ} (x : BitVec w) (a m s l : ℕ) (h : s + l ≤ m) :
    (x.extractLsb' a m).extractLsb' s l = x.extractLsb' (a + s) l := by
  refine BitVec.eq_of_getLsbD_eq fun i hi => ?_
  have hm : s + i < m := by omega
  simp [hi, hm, Nat.add_assoc]

/-- Codes give their entries of CHARSET (41_extract.md R108). -/
theorem charsOfCodes_eq_map (codes : List (BitVec 6)) :
    charsOfCodes codes = some (codes.map fun c => charset.getD c.toNat '?') := by
  induction codes with
  | nil => rfl
  | cons c cs ih =>
    have hchar : readCharset c = some (charset.getD c.toNat '?') := by
      obtain ⟨x, hx, -⟩ := readCharset_isSome c
      rw [hx, List.getD_eq_getElem?_getD, ← readCharset, hx, Option.getD_some]
    simp only [charsOfCodes, hchar, ih, List.map_cons]

section LongFrame

variable (df : BitVec 5) (fs : BitVec 3) (icao : BitVec 24) (b4 : Byte) (body : BitVec 48) (crc : BitVec 24)

/-- Bytes 5 to 10 are the body, most significant first. -/
theorem byteAt_longFrame_body {q : ℕ} (hq : q < 6) :
    byteAt (longFrame df fs icao b4 body crc) (5 + q) = some (body.extractLsb' (40 - 8 * q) 8) := by
  interval_cases q <;> rfl

/-- Frame bits 40 to 87 are the body, most significant first. -/
theorem bitAt_longFrame_body {j : ℕ} (hj : j < 48) :
    bitAt (longFrame df fs icao b4 body crc) (40 + j) = some (body.getLsbD (47 - j)) := by
  have hbyte : (40 + j) / 8 = 5 + j / 8 := by omega
  have hbit : 40 - 8 * (j / 8) + (7 - (40 + j) % 8) = 47 - j := by omega
  have hlow : 7 - (40 + j) % 8 < 8 := by omega
  simp only [bitAt, hbyte, byteAt_longFrame_body df fs icao b4 body crc (show j / 8 < 6 by omega),
    BitVec.getLsbD_extractLsb', hbit, hlow, decide_true, Bool.true_and]

/-- A field of frame bits within 40 to 87 is a field of the body. -/
theorem bitField_longFrame_body {a n : ℕ} (h : a + n ≤ 48) :
    bitField (longFrame df fs icao b4 body crc) (40 + a) n = some (body.extractLsb' (48 - a - n) n) := by
  induction n with
  | zero => exact congrArg some (BitVec.eq_of_getLsbD_eq nofun)
  | succ k ih =>
    have hbit := bitAt_longFrame_body df fs icao b4 body crc (show a + k < 48 by omega)
    rw [← Nat.add_assoc] at hbit
    simp only [bitField, ih (by omega), hbit]
    refine congrArg some (BitVec.eq_of_getLsbD_eq fun i hi => ?_)
    cases i with
    | zero => simp [show 47 - (a + k) = 48 - a - (k + 1) by omega]
    | succ i =>
      have hi' : i < k := by omega
      simp [hi', show 48 - a - k + i = 48 - a - (k + 1) + (i + 1) by omega]

/-- RAW_POSITION of a long frame (41_extract.md R109). -/
theorem rawPosition_longFrame : rawPosition (longFrame df fs icao b4 body crc) = some (positionOfBody body) := by
  have hf : (body.extractLsb' 32 8).getLsbD 2 = body.getLsbD 34 := by simp
  have hlat : (body.extractLsb' 32 8).extractLsb' 0 2 ++ body.extractLsb' 24 8 ++
      (body.extractLsb' 16 8).extractLsb' 1 7 = body.extractLsb' 17 17 := by
    rw [extractLsb'_of_extractLsb' _ _ _ _ _ (by omega), extractLsb'_of_extractLsb' _ _ _ _ _ (by omega),
      BitVec.extractLsb'_append_extractLsb'_eq_extractLsb' (by rfl),
      BitVec.extractLsb'_append_extractLsb'_eq_extractLsb' (by rfl)]
  have hlon : (body.extractLsb' 16 8).extractLsb' 0 1 ++ body.extractLsb' 8 8 ++ body.extractLsb' 0 8 =
      body.extractLsb' 0 17 := by
    rw [extractLsb'_of_extractLsb' _ _ _ _ _ (by omega), BitVec.extractLsb'_append_extractLsb'_eq_extractLsb' (by rfl),
      BitVec.extractLsb'_append_extractLsb'_eq_extractLsb' (by rfl)]
  rw [positionOfBody, ← hf, ← hlat, ← hlon]
  rfl

/-- ALT12 of a long frame (41_extract.md R106). -/
theorem alt12_longFrame : alt12 (longFrame df fs icao b4 body crc) = some (alt12OfBody body) := by
  have hcode : ((body.extractLsb' 40 8).extractLsb' 1 7 ++ (body.extractLsb' 32 8).extractLsb' 4 4 :
      BitVec (7 + 4)).toNat = body.toNat / 2 ^ 41 * 16 + body.toNat / 2 ^ 36 % 16 := by
    have := body.isLt
    simp only [toNat_append_eq, BitVec.extractLsb'_toNat, Nat.shiftRight_eq_div_pow]
    omega
  have h5 : byteAt (longFrame df fs icao b4 body crc) 5 = some (body.extractLsb' 40 8) := rfl
  have h6 : byteAt (longFrame df fs icao b4 body crc) 6 = some (body.extractLsb' 32 8) := rfl
  unfold alt12 alt12OfBody
  rw [h5, h6, ← hcode]
  simp [altitudeOfCode_eq, apply_ite some]

/-- VELOCITY_COMPONENTS of a long frame (41_extract.md R110). -/
theorem velocityComponents_longFrame :
    velocityComponents (longFrame df fs icao b4 body crc) = some (ewOfBody body, nsOfBody body) := by
  have hewDir : (body.extractLsb' 40 8).getLsbD 2 = body.getLsbD 42 := by simp
  have hewMag : (body.extractLsb' 40 8).extractLsb' 0 2 ++ body.extractLsb' 32 8 = body.extractLsb' 32 10 := by
    rw [extractLsb'_of_extractLsb' _ _ _ _ _ (by omega), BitVec.extractLsb'_append_extractLsb'_eq_extractLsb' (by rfl)]
  have hnsDir : (body.extractLsb' 24 8).getLsbD 7 = body.getLsbD 31 := by simp
  have hnsMag : (body.extractLsb' 24 8).extractLsb' 0 7 ++ (body.extractLsb' 16 8).extractLsb' 5 3 =
      body.extractLsb' 21 10 := by
    rw [extractLsb'_of_extractLsb' _ _ _ _ _ (by omega), extractLsb'_of_extractLsb' _ _ _ _ _ (by omega),
      BitVec.extractLsb'_append_extractLsb'_eq_extractLsb' (by rfl)]
  rw [ewOfBody, nsOfBody, ← hewDir, ← hewMag, ← hnsDir, ← hnsMag]
  rfl

/-- CALLSIGN_CODES of a long frame: code `i` is body bits `42 − 6i` to `47 − 6i` (41_extract.md R107). -/
theorem callsignCodes_longFrame {n : ℕ} (hn : n ≤ 8) :
    callsignCodes (longFrame df fs icao b4 body crc) n =
      some ((List.range n).map fun i => body.extractLsb' (42 - 6 * i) 6) := by
  induction n with
  | zero => rfl
  | succ k ih =>
    have hcode := bitField_longFrame_body df fs icao b4 body crc (show 6 * k + 6 ≤ 48 by omega)
    simp [callsignCodes, ih (by omega), hcode, List.range_succ, show 48 - 6 * k - 6 = 42 - 6 * k by omega]

/-- CALLSIGN of a long frame (41_extract.md R108). -/
theorem callsign_longFrame : callsign (longFrame df fs icao b4 body crc) = some (callsignOfBody body) := by
  have hcode (i : ℕ) : (body.extractLsb' (42 - 6 * i) 6).toNat = body.toNat / 2 ^ (42 - 6 * i) % 64 := by
    rw [BitVec.extractLsb'_toNat, Nat.shiftRight_eq_div_pow]
  unfold callsign callsignOfBody
  simp only [callsignCodes_longFrame df fs icao b4 body crc le_rfl, charsOfCodes_eq_map, ← hcode, List.map_map]
  rfl

/-- The class fields of POSVEL on a long frame (42_dispatch.md R143). -/
theorem posvelFields_longFrame (r : Record) :
    posvelFields (longFrame df fs icao b4 body crc) r = some { r with
      position := some (positionOfBody body)
      altitude := some (alt12OfBody body)
      velocity := some (velocityOfBody body) } :=
  posvelFields_of (rawPosition_longFrame ..) (alt12_longFrame ..) (velocityComponents_longFrame ..)

/-- The class fields of POS on a long frame: no velocity (42_dispatch.md R144). -/
theorem posFields_longFrame (r : Record) :
    posFields (longFrame df fs icao b4 body crc) r = some { r with
      position := some (positionOfBody body)
      altitude := some (alt12OfBody body) } :=
  posFields_of (rawPosition_longFrame ..) (alt12_longFrame ..)

end LongFrame

/-- Settles O23: ST stands in byte 4, and CALLSIGN reads bytes 5 to 10 only. -/
theorem identFramesEmitTheirCallsign : Obligations.IdentFramesEmitTheirCallsign := by
  intro fs icao st body crc s
  refine ⟨?_, ?_, ?_, ?_⟩ <;> exact fun h => exec_completesWith h (identFields_of (callsign_longFrame ..))

/-- Settles O24: each of the overlapping fields is read from the body as its own rule says. -/
theorem posvelFramesEmitPositionAltitudeAndVelocity : Obligations.PosvelFramesEmitPositionAltitudeAndVelocity := by
  intro fs icao body crc s
  refine ⟨?_, ?_⟩ <;> exact fun h => exec_completesWith h (posvelFields_longFrame ..)

/-- Settles O25: position and altitude are read from the body, and the minimal record has no velocity. -/
theorem posFramesEmitPositionAndAltitude : Obligations.PosFramesEmitPositionAndAltitude := by
  intro fs icao body crc s
  refine ⟨?_, ?_⟩ <;> exact fun h => exec_completesWith h (posFields_longFrame ..)

/-! ### The output object -/

/-- The entries of an optional field are those of its value, where it has one. -/
theorem mem_entriesOf {α : Type} (f : α → List (Key × Value)) (x : Option α) (e : Key × Value) :
    e ∈ entriesOf f x ↔ ∃ a, x = some a ∧ e ∈ f a := by
  cases x <;> simp [entriesOf]

/-- The keys of R150, in the order in which the model writes them. -/
def allKeys : List Key :=
  [.icao, .crcValid] ++ [.altitude] ++ [.callsign] ++ [.coordpairEven, .rawLat, .rawLon] ++ [.speed, .heading] ++
    [.regid, .mdl, .actype, .operator]

theorem mem_allKeys (k : Key) : k ∈ allKeys := by
  cases k <;> decide

/-- No two keys are written alike. -/
theorem names_nodup : (allKeys.map Key.name).Nodup := by decide

theorem keyName_injective : Function.Injective Key.name := fun k l =>
  List.inj_on_of_nodup_map names_nodup (mem_allKeys k) (mem_allKeys l)

/-- A key as it is written has the values of the key. -/
theorem name_mem_serializedPairs (k : Key) (v : Value) (r : Record) :
    (k.name, v) ∈ serializedPairs r ↔ (k, v) ∈ serialize r := by
  simp [serializedPairs, keyName_injective.eq_iff]

/-- The keys of an optional field are those its value would have, or none. -/
theorem keys_entriesOf_sublist {α : Type} {f : α → List (Key × Value)} {keys : List Key}
    (h : ∀ a, (f a).map Prod.fst = keys) (x : Option α) : ((entriesOf f x).map Prod.fst).Sublist keys := by
  cases x with
  | none => exact List.nil_sublist keys
  | some a => exact h a ▸ List.Sublist.refl _

/-- The keys of an output object are some of all keys, in order. -/
theorem keys_serialize_sublist (r : Record) : ((serialize r).map Prod.fst).Sublist allKeys := by
  simp only [serialize, List.map_append, allKeys]
  refine .append (.append (.append (.append (.append (.refl _) ?_) ?_) ?_) ?_) ?_
  all_goals exact keys_entriesOf_sublist (by exact fun _ => rfl) _

/-- The keys as they are written are some of all the names, in order. -/
theorem names_serializedPairs_sublist (r : Record) :
    ((serializedPairs r).map Prod.fst).Sublist (allKeys.map Key.name) := by
  simpa [serializedPairs, Function.comp_def] using (keys_serialize_sublist r).map Key.name

/-- Settles O52: the keys that are written are some of R150's thirteen, in order, and each key has the value of its
field exactly where the field is present. -/
theorem serializedKeysAreThePresentFields : Obligations.SerializedKeysAreThePresentFields := by
  intro r
  have hsub := names_serializedPairs_sublist r
  refine ⟨hsub.nodup names_nodup, fun e he => hsub.subset (List.mem_map_of_mem he),
    fun v => (name_mem_serializedPairs .icao v r).trans ?_,
    fun v => (name_mem_serializedPairs .crcValid v r).trans ?_,
    fun v => (name_mem_serializedPairs .altitude v r).trans ?_,
    fun v => (name_mem_serializedPairs .callsign v r).trans ?_,
    fun v => (name_mem_serializedPairs .coordpairEven v r).trans ?_,
    fun v => (name_mem_serializedPairs .rawLat v r).trans ?_,
    fun v => (name_mem_serializedPairs .rawLon v r).trans ?_,
    fun v => (name_mem_serializedPairs .speed v r).trans ?_,
    fun v => (name_mem_serializedPairs .heading v r).trans ?_,
    fun v => (name_mem_serializedPairs .regid v r).trans ?_,
    fun v => (name_mem_serializedPairs .mdl v r).trans ?_,
    fun v => (name_mem_serializedPairs .actype v r).trans ?_,
    fun v => (name_mem_serializedPairs .operator v r).trans ?_⟩
  all_goals simp [serialize, mem_entriesOf, positionEntries, velocityEntries, registryEntries, Bool.beq_eq_decide_eq]

end Sys2Proof.Proofs
end

section
/-! PROOF. The ways a transaction ends without a record (60_exceptions.md R171, R172, R175): CHECKSUM_MISMATCH for a frame of
any row, and the three cases of MALFORMED. -/

namespace Sys2Proof.Proofs

open Sys2Proof.Machine Sys2Proof.Laws

/-- A dropped frame leaves its outcome and nothing else, wherever the next events stand (60_exceptions.md R175). -/
theorem dropsWith_afterDrop (s : State) (rest : List HostEvent) (o : TxOutcome) :
    DropsWith s ({ s with hostInput := rest }.afterDrop o) o :=
  ⟨rfl, rfl, rfl, rfl⟩

/-! ### CHECKSUM_MISMATCH -/

/-- An instruction whose frame computes another checksum than it carries is dropped. -/
theorem exec_of_mismatch {i : Instr} {c : BitVec 24} (h : computeCrc (encode i) (lenByType i.df) = some c)
    (hne : c ≠ i.crc) (s : State) : exec i s = .next (s.afterDrop (.checksumMismatch c i.crc)) := by
  have hv : frameVerdict (encode i) = some (.mismatch c i.crc) := by rw [frameVerdict_encode h, if_neg hne]
  exact (exec_eq i s).trans (recordTransaction_mismatch hv)

/-- Settles O27: the verdict is the same for every row, and a mismatch drops the frame before its class is looked at. -/
theorem mismatchedFramesAreDropped : Obligations.MismatchedFramesAreDropped := by
  intro i s c h hne
  exact ⟨_, exec_of_mismatch h hne s, dropsWith_afterDrop s s.hostInput _⟩

/-! ### MALFORMED -/

/-- A type whose frames are long has no row of seven bytes. -/
theorem decodeShort_eq_none {df : BitVec 5} (h : lenByType df = 112) (fs : BitVec 3) (icao crc : BitVec 24) :
    decodeShort df fs icao crc = none := by
  have hlong : df.toNat ∈ [16, 17, 19, 20, 21] := (lenByType_eq_112_iff df).mp h
  unfold decodeShort
  split
  case h_28 => rfl
  all_goals rename_i hdf; simp [hdf] at hlong

/-- A type whose frames are short has no row of fourteen bytes. -/
theorem decodeLong_eq_none {df : BitVec 5} (h : lenByType df ≠ 112) (fs : BitVec 3) (icao : BitVec 24) (b4 : Byte)
    (body : BitVec 48) (crc : BitVec 24) : decodeLong df fs icao b4 body crc = none := by
  have hshort : df.toNat ∉ [16, 17, 19, 20, 21] := mt (lenByType_eq_112_iff df).mpr h
  unfold decodeLong
  split
  case h_6 => rfl
  all_goals rename_i hdf; simp [hdf] at hshort

/-- A byte count that is not the one of the type is refused with both counts (42_dispatch.md R148): seven and fourteen bytes
because the type has no row of that length, any other number because no type has it. -/
theorem decode_eq_length_error {b0 : Byte} {bs : List Byte} (h : 8 * (b0 :: bs).length ≠ lenByType (typeBits b0)) :
    decode (b0 :: bs) = .error (.length (b0 :: bs).length (lenByType (typeBits b0) / 8)) := by
  unfold decode
  split
  case h_1 heq => cases heq
  case h_2 heq =>
    cases heq
    rw [decodeShort_eq_none ((lenByType_cases _).resolve_left h.symm)]
    rfl
  case h_3 heq =>
    cases heq
    rw [decodeLong_eq_none h.symm]
    rfl
  case h_4 heq => cases heq; rfl

/-- Settles O35: the front end rejects the line, or the decoder refuses the bytes before any checksum is computed, and the
event has taken its turn. -/
theorem malformedInputsAreDropped : Obligations.MalformedInputsAreDropped := by
  intro s rest hb
  refine ⟨fun text hin hf => ?hex, fun hin => ?empty, fun b0 bs hin hlen => ?length⟩
  case hex => exact ⟨_, step_badHex hin hf hb, rfl, dropsWith_afterDrop s rest _⟩
  case empty =>
    have hd : decode [] = .error .empty := rfl
    exact ⟨_, (step_presentsFrame hin hb).trans (runFrame_error hd _), rfl, dropsWith_afterDrop s rest _⟩
  case length =>
    have hd := decode_eq_length_error hlen
    exact ⟨_, (step_presentsFrame hin hb).trans (runFrame_error hd _), rfl, dropsWith_afterDrop s rest _⟩

end Sys2Proof.Proofs
end

section
/-! PROOF. The decoder and the encoder (30_encoding.md R60 to R65): each undoes the other, only a byte count is refused, and
the row of the opcode table that a header word matches is the instruction's. -/

namespace Sys2Proof.Proofs

open Sys2Proof.Machine Sys2Proof.Laws

/-! ### Decoding a frame the encoder wrote -/

/-- A short frame decodes to the row of its type. -/
theorem decode_shortFrame_of_row {df : BitVec 5} {fs : BitVec 3} {icao crc : BitVec 24} {i : Instr}
    (h : decodeShort df fs icao crc = some i) : decode (shortFrame df fs icao crc) = .ok i := by
  rw [decode_shortFrame, h, lengthChecked]

/-- A long frame of type 17 decodes to the row of the TC and ST in its byte 4. -/
theorem decode_longFrame_of_typeCode {fs : BitVec 3} {icao : BitVec 24} {tc : BitVec 5} {st : BitVec 3}
    {body : BitVec 48} {crc : BitVec 24} {i : Instr} (h : decodeTypeCode fs icao tc st body crc = some i) :
    decode (longFrame 17#5 fs icao (tc ++ st) body crc) = .ok i := by
  have hrow : decodeLong 17#5 fs icao (tc ++ st) body crc =
      decodeTypeCode fs icao (typeBits (tc ++ st)) (low3Bits (tc ++ st)) body crc := rfl
  rw [typeBits_append, low3Bits_append, h] at hrow
  rw [decode_longFrame, hrow, lengthChecked]

/-- Settles O1: each row's frame decodes to the row of its key, with its fields as operands; a long frame of another type than
17 has its 56 bits put together again. -/
theorem decodeOfEncodeIsTheInstruction : Obligations.DecodeOfEncodeIsTheInstruction := by
  intro i
  cases i with
  | alt13Df16 | minDf19 | alt13Df20 | minDf21 => simp [encode, decode_longFrame, decodeLong, lengthChecked]
  | minDf17Tc0 | identTc1 | identTc2 | identTc3 | identTc4 | minDf17Tc5 | minDf17Tc6 | minDf17Tc7 | minDf17Tc8
  | minDf17Tc9 | minDf17Tc10 | minDf17Tc11 | minDf17Tc12 | minDf17Tc13 | minDf17Tc14 | minDf17Tc15 | minDf17Tc16
  | minDf17Tc17 | minDf17Tc18 | minDf17Tc20 | minDf17Tc21 | minDf17Tc22 | minDf17Tc23 | minDf17Tc24 | minDf17Tc25
  | minDf17Tc26 | minDf17Tc27 | minDf17Tc28 | minDf17Tc29 | minDf17Tc30 | minDf17Tc31
  | minDf17Tc19St0 | posvelSt1 | posvelSt2 | posSt3 | posSt4 | minDf17Tc19St5 | minDf17Tc19St6 | minDf17Tc19St7 =>
    exact decode_longFrame_of_typeCode rfl
  | _ => exact decode_shortFrame_of_row rfl

/-! ### Encoding what bytes decode to -/

/-- A word put together from three bytes has them as its bytes. -/
theorem bytes_of_append_24 (a b c : Byte) :
    (a ++ b ++ c).extractLsb' 16 8 = a ∧ (a ++ b ++ c).extractLsb' 8 8 = b ∧ (a ++ b ++ c).extractLsb' 0 8 = c := by
  refine ⟨?_, ?_, ?_⟩ <;> refine BitVec.eq_of_toNat_eq ?_ <;>
    simp only [BitVec.extractLsb'_toNat, Nat.shiftRight_eq_div_pow, toNat_append_eq] <;> omega

/-- A word put together from six bytes has them as its bytes. -/
theorem bytes_of_append_48 (a b c d e f : Byte) :
    (a ++ b ++ c ++ d ++ e ++ f).extractLsb' 40 8 = a ∧ (a ++ b ++ c ++ d ++ e ++ f).extractLsb' 32 8 = b ∧
    (a ++ b ++ c ++ d ++ e ++ f).extractLsb' 24 8 = c ∧ (a ++ b ++ c ++ d ++ e ++ f).extractLsb' 16 8 = d ∧
    (a ++ b ++ c ++ d ++ e ++ f).extractLsb' 8 8 = e ∧ (a ++ b ++ c ++ d ++ e ++ f).extractLsb' 0 8 = f := by
  refine ⟨?_, ?_, ?_, ?_, ?_, ?_⟩ <;> refine BitVec.eq_of_toNat_eq ?_ <;>
    simp only [BitVec.extractLsb'_toNat, Nat.shiftRight_eq_div_pow, toNat_append_eq] <;> omega

/-- A top byte and a body are the parts of their 56 bits. -/
theorem parts_of_append_56 (a : Byte) (b : BitVec 48) :
    (a ++ b).extractLsb' 48 8 = a ∧ (a ++ b).extractLsb' 0 48 = b :=
  ⟨BitVec.extractLsb'_append_eq_left, BitVec.extractLsb'_append_eq_right⟩

/-- Seven bytes are the short frame of the fields the decoder reads in them. -/
theorem shortFrame_of_bytes (b0 b1 b2 b3 b4 b5 b6 : Byte) :
    shortFrame (typeBits b0) (low3Bits b0) (b1 ++ b2 ++ b3) (b4 ++ b5 ++ b6) = [b0, b1, b2, b3, b4, b5, b6] := by
  simp only [shortFrame, typeBits_append_low3Bits, bytes_of_append_24]

/-- Fourteen bytes are the long frame of the fields the decoder reads in them. -/
theorem longFrame_of_bytes (b0 b1 b2 b3 b4 b5 b6 b7 b8 b9 b10 b11 b12 b13 : Byte) :
    longFrame (typeBits b0) (low3Bits b0) (b1 ++ b2 ++ b3) b4 (b5 ++ b6 ++ b7 ++ b8 ++ b9 ++ b10) (b11 ++ b12 ++ b13) =
      [b0, b1, b2, b3, b4, b5, b6, b7, b8, b9, b10, b11, b12, b13] := by
  simp only [longFrame, typeBits_append_low3Bits, bytes_of_append_24, bytes_of_append_48]

/-- A word is the literal of its number. -/
theorem eq_ofNat_of_toNat {w n : ℕ} {x : BitVec w} (h : x.toNat = n) : x = BitVec.ofNat w n :=
  BitVec.eq_of_toNat_eq (by rw [BitVec.toNat_ofNat, ← h, Nat.mod_eq_of_lt x.isLt])

/-- The rows of TC 19 are frames with their ST in byte 4. -/
theorem encode_of_decodeSubtype {fs : BitVec 3} {icao : BitVec 24} {st : BitVec 3} {body : BitVec 48} {crc : BitVec 24}
    {i : Instr} (h : decodeSubtype fs icao st body crc = some i) :
    encode i = longFrame 17#5 fs icao (19#5 ++ st) body crc := by
  unfold decodeSubtype at h
  split at h
  case h_9 => cases h
  all_goals
    rename_i hst
    cases h
    cases eq_ofNat_of_toNat hst
    rfl

/-- The rows of type 17 are frames with their TC and ST in byte 4. -/
theorem encode_of_decodeTypeCode {fs : BitVec 3} {icao : BitVec 24} {tc : BitVec 5} {st : BitVec 3} {body : BitVec 48}
    {crc : BitVec 24} {i : Instr} (h : decodeTypeCode fs icao tc st body crc = some i) :
    encode i = longFrame 17#5 fs icao (tc ++ st) body crc := by
  unfold decodeTypeCode at h
  split at h
  case h_20 htc =>
    cases eq_ofNat_of_toNat htc
    exact encode_of_decodeSubtype h
  case h_33 => cases h
  all_goals
    rename_i htc
    cases h
    cases eq_ofNat_of_toNat htc
    rfl

/-- The rows of seven bytes are short frames of their type. -/
theorem encode_of_decodeShort {df : BitVec 5} {fs : BitVec 3} {icao crc : BitVec 24} {i : Instr}
    (h : decodeShort df fs icao crc = some i) : encode i = shortFrame df fs icao crc := by
  unfold decodeShort at h
  split at h
  case h_28 => cases h
  all_goals
    rename_i hdf
    cases h
    cases eq_ofNat_of_toNat hdf
    rfl

/-- The rows of fourteen bytes are long frames of their type. -/
theorem encode_of_decodeLong {df : BitVec 5} {fs : BitVec 3} {icao : BitVec 24} {b4 : Byte} {body : BitVec 48}
    {crc : BitVec 24} {i : Instr} (h : decodeLong df fs icao b4 body crc = some i) :
    encode i = longFrame df fs icao b4 body crc := by
  unfold decodeLong at h
  split at h
  case h_2 hdf =>
    cases eq_ofNat_of_toNat hdf
    rw [encode_of_decodeTypeCode h, typeBits_append_low3Bits]
  case h_6 => cases h
  all_goals
    rename_i hdf
    cases h
    cases eq_ofNat_of_toNat hdf
    simp only [encode, parts_of_append_56]

/-- Settles O2: each row the decoder answers is encoded back with the fields it was read from. -/
theorem encodeOfDecodeIsTheFrame : Obligations.EncodeOfDecodeIsTheFrame := by
  intro bytes i h
  obtain ⟨_, _, _, _, _, _, _, rfl, hrow⟩ | ⟨_, _, _, _, _, _, _, _, _, _, _, _, _, _, rfl, hrow⟩ := decode_ok_cases h
  · rw [encode_of_decodeShort hrow, shortFrame_of_bytes]
  · rw [encode_of_decodeLong hrow, longFrame_of_bytes]

/-! ### Which bytes decode -/

/-- Well-formedness of a frame, as the two conditions of 42_dispatch.md R148. -/
theorem frameWellFormed_iff (bytes : List Byte) :
    frameWellFormed bytes = true ↔ bytes ≠ [] ∧ 8 * bytes.length = lenByType (typeBits (bytes.headD 0)) := by
  simp [frameWellFormed, frameNonempty, frameLengthCorrect]

/-- The frame of an instruction is well-formed. -/
theorem encode_wellFormed (i : Instr) : frameWellFormed (encode i) = true := by
  obtain ⟨b, hb, htype⟩ := Option.map_eq_some_iff.mp (frameType_encode i)
  obtain ⟨bs, hbytes⟩ : ∃ bs, encode i = b :: bs := List.head?_eq_some_iff.mp (by rw [List.head?_eq_getElem?]; exact hb)
  rw [frameWellFormed_iff, encode_length, hbytes]
  exact ⟨List.cons_ne_nil b bs, by rw [List.headD_cons, htype]⟩

/-- Every type whose frames are short has a row of seven bytes. -/
theorem decodeShort_isSome {df : BitVec 5} (h : lenByType df = 56) (fs : BitVec 3) (icao crc : BitVec 24) :
    ∃ i, decodeShort df fs icao crc = some i := by
  have hshort : df.toNat ∉ [16, 17, 19, 20, 21] := fun hmem => by
    rw [(lenByType_eq_112_iff df).mpr hmem] at h
    exact absurd h (by decide)
  have := df.isLt
  unfold decodeShort
  split
  case h_28 => simp only [imp_false, List.mem_cons, List.not_mem_nil, or_false] at *; omega
  all_goals exact ⟨_, rfl⟩

/-- Every ST has a row. -/
theorem decodeSubtype_isSome (fs : BitVec 3) (icao : BitVec 24) (st : BitVec 3) (body : BitVec 48) (crc : BitVec 24) :
    ∃ i, decodeSubtype fs icao st body crc = some i := by
  have := st.isLt
  unfold decodeSubtype
  split
  case h_9 => simp only [imp_false] at *; omega
  all_goals exact ⟨_, rfl⟩

/-- Every TC has a row. -/
theorem decodeTypeCode_isSome (fs : BitVec 3) (icao : BitVec 24) (tc : BitVec 5) (st : BitVec 3) (body : BitVec 48)
    (crc : BitVec 24) : ∃ i, decodeTypeCode fs icao tc st body crc = some i := by
  have := tc.isLt
  unfold decodeTypeCode
  split
  case h_20 => exact decodeSubtype_isSome ..
  case h_33 => simp only [imp_false] at *; omega
  all_goals exact ⟨_, rfl⟩

/-- Every type whose frames are long has a row of fourteen bytes. -/
theorem decodeLong_isSome {df : BitVec 5} (h : lenByType df = 112) (fs : BitVec 3) (icao : BitVec 24) (b4 : Byte)
    (body : BitVec 48) (crc : BitVec 24) : ∃ i, decodeLong df fs icao b4 body crc = some i := by
  have hlong : df.toNat ∈ [16, 17, 19, 20, 21] := (lenByType_eq_112_iff df).mp h
  unfold decodeLong
  split
  case h_2 => exact decodeTypeCode_isSome ..
  case h_6 => simp only [imp_false, List.mem_cons, List.not_mem_nil, or_false] at *; omega
  all_goals exact ⟨_, rfl⟩

/-- A well-formed frame decodes: its type has a row of its length. -/
theorem decode_of_wellFormed {bytes : List Byte} (h : frameWellFormed bytes = true) : ∃ i, decode bytes = .ok i := by
  obtain ⟨hne, hlen⟩ := (frameWellFormed_iff bytes).mp h
  obtain hl | hl := lenByType_cases (typeBits (bytes.headD 0))
  · match bytes, hlen.trans hl with
    | [b0, b1, b2, b3, b4, b5, b6], _ =>
      obtain ⟨i, hi⟩ := decodeShort_isSome hl (low3Bits b0) (b1 ++ b2 ++ b3) (b4 ++ b5 ++ b6)
      exact ⟨i, congrArg (lengthChecked 7 b0) hi⟩
  · match bytes, hlen.trans hl with
    | [b0, b1, b2, b3, b4, b5, b6, b7, b8, b9, b10, b11, b12, b13], _ =>
      obtain ⟨i, hi⟩ := decodeLong_isSome hl (low3Bits b0) (b1 ++ b2 ++ b3) b4 (b5 ++ b6 ++ b7 ++ b8 ++ b9 ++ b10)
        (b11 ++ b12 ++ b13)
      exact ⟨i, congrArg (lengthChecked 14 b0) hi⟩

/-- Settles O3: what decodes is the frame of an instruction, and a well-formed frame has a row. -/
theorem decodeRefusesOnlyWrongByteCounts : Obligations.DecodeRefusesOnlyWrongByteCounts := fun bytes =>
  ⟨fun ⟨i, hi⟩ => encodeOfDecodeIsTheFrame bytes i hi ▸ encode_wellFormed i, decode_of_wellFormed⟩

/-- Settles O4: the decoder is run on each of the eight frames. -/
theorem sampleFramesDecodeToTheirRows : Obligations.SampleFramesDecodeToTheirRows :=
  ⟨rfl, rfl, rfl, rfl, rfl, rfl, rfl, rfl⟩

/-! ### The opcode table -/

/-- The row of `i` for a key of type `df` and byte 4 `b4`, of which the mask `m` is looked at (30_encoding.md R63). -/
def keyRow (i : Instr) (df : BitVec 5) (b4 m : Byte) (long : Bool) : OpcodeRow :=
  ⟨i.mnemonic, df ++ 0#27 ++ (b4 &&& m), BitVec.allOnes 5 ++ 0#27 ++ m, i.cls, long⟩

/-- A row is hit by every header word of its key: its mask leaves out the bits between the type and byte 4, which are the
low bits of byte 0 and bytes 1 to 3. -/
theorem keyRow_hits_header (i : Instr) (b0 b1 b2 b3 b4 m : Byte) (long : Bool) :
    (keyRow i (typeBits b0) b4 m long).hits (b0 ++ b1 ++ b2 ++ b3 ++ b4) = true := by
  have hsplit : b0 ++ b1 ++ b2 ++ b3 ++ b4 = typeBits b0 ++ (low3Bits b0 ++ b1 ++ b2 ++ b3) ++ b4 := by
    refine BitVec.eq_of_toNat_eq ?_
    simp only [toNat_append_eq, typeBits_toNat, low3Bits_toNat]
    omega
  have hmasked : (typeBits b0 ++ (low3Bits b0 ++ b1 ++ b2 ++ b3) ++ b4) &&& (BitVec.allOnes 5 ++ 0#27 ++ m) =
      typeBits b0 ++ 0#27 ++ (b4 &&& m) := by
    rw [BitVec.and_append, BitVec.and_append, BitVec.and_allOnes, BitVec.and_zero]
  rw [hsplit]
  exact beq_iff_eq.mpr hmasked

/-- The mask of a TC row leaves ST out. -/
theorem typeCode_and_mask (tc : BitVec 5) (st : BitVec 3) : (tc ++ st) &&& 0xF8#8 = tc ++ 0#3 := by
  have h : (tc ++ st) &&& (BitVec.allOnes 5 ++ 0#3) = tc ++ 0#3 := by
    rw [BitVec.and_append, BitVec.and_allOnes, BitVec.and_zero]
  exact h

/-- The rows of TC 19 are in the opcode table, with all of byte 4 in their key. -/
theorem keyRow_of_decodeSubtype {fs : BitVec 3} {icao : BitVec 24} {st : BitVec 3} {body : BitVec 48} {crc : BitVec 24}
    {i : Instr} (h : decodeSubtype fs icao st body crc = some i) :
    keyRow i 17#5 (19#5 ++ st) 0xFF true ∈ opcodeTable := by
  unfold decodeSubtype at h
  split at h
  case h_9 => cases h
  all_goals
    rename_i hst
    cases h
    cases eq_ofNat_of_toNat hst
    simp only [keyRow, Instr.mnemonic, Instr.cls]
    decide

/-- The rows of type 17 are in the opcode table, with TC, and for TC 19 also ST, in their key. -/
theorem keyRow_of_decodeTypeCode {fs : BitVec 3} {icao : BitVec 24} {tc : BitVec 5} {st : BitVec 3} {body : BitVec 48}
    {crc : BitVec 24} {i : Instr} (h : decodeTypeCode fs icao tc st body crc = some i) :
    ∃ m, keyRow i 17#5 (tc ++ st) m true ∈ opcodeTable := by
  unfold decodeTypeCode at h
  split at h
  case h_20 htc =>
    cases eq_ofNat_of_toNat htc
    exact ⟨_, keyRow_of_decodeSubtype h⟩
  case h_33 => cases h
  all_goals
    rename_i htc
    cases h
    cases eq_ofNat_of_toNat htc
    refine ⟨0xF8#8, ?_⟩
    simp only [keyRow, Instr.mnemonic, Instr.cls, typeCode_and_mask]
    decide

/-- The rows of seven bytes are in the opcode table, with nothing of byte 4 in their key. -/
theorem keyRow_of_decodeShort {df : BitVec 5} {fs : BitVec 3} {icao crc : BitVec 24} {i : Instr}
    (h : decodeShort df fs icao crc = some i) (b4 : Byte) : keyRow i df b4 0#8 false ∈ opcodeTable := by
  unfold decodeShort at h
  split at h
  case h_28 => cases h
  all_goals
    rename_i hdf
    cases h
    cases eq_ofNat_of_toNat hdf
    simp only [keyRow, Instr.mnemonic, Instr.cls, BitVec.and_zero]
    decide

/-- The rows of fourteen bytes are in the opcode table, with byte 4 in their key only for type 17. -/
theorem keyRow_of_decodeLong {df : BitVec 5} {fs : BitVec 3} {icao : BitVec 24} {b4 : Byte} {body : BitVec 48}
    {crc : BitVec 24} {i : Instr} (h : decodeLong df fs icao b4 body crc = some i) :
    ∃ m, keyRow i df b4 m true ∈ opcodeTable := by
  unfold decodeLong at h
  split at h
  case h_2 hdf =>
    cases eq_ofNat_of_toNat hdf
    have hrow := keyRow_of_decodeTypeCode h
    rwa [typeBits_append_low3Bits] at hrow
  case h_6 => cases h
  all_goals
    rename_i hdf
    cases h
    cases eq_ofNat_of_toNat hdf
    refine ⟨0#8, ?_⟩
    simp only [keyRow, Instr.mnemonic, Instr.cls, BitVec.and_zero]
    decide

/-- Settles O6: the decoder's row is in the opcode table under the key the header word holds. -/
theorem decodedInstructionIsTheMatchingRow : Obligations.DecodedInstructionIsTheMatchingRow := by
  intro bytes i h
  obtain ⟨b0, b1, b2, b3, b4, b5, b6, rfl, hrow⟩ |
    ⟨b0, b1, b2, b3, b4, b5, b6, b7, b8, b9, b10, b11, b12, b13, rfl, hrow⟩ := decode_ok_cases h
  · exact ⟨_, rfl, _, keyRow_of_decodeShort hrow b4, keyRow_hits_header .., rfl, rfl, rfl⟩
  · obtain ⟨m, hmem⟩ := keyRow_of_decodeLong hrow
    exact ⟨_, rfl, _, hmem, keyRow_hits_header .., rfl, rfl, rfl⟩

/-- Two rows of the table differ in a bit that both look at. -/
theorem opcodeTable_disjoint : ∀ q ∈ opcodeTable, ∀ r ∈ opcodeTable,
    q.matchBits &&& r.mask = r.matchBits &&& q.mask → q = r := by
  decide +kernel

/-- Rows that a common header word hits agree in the bits that both look at. -/
theorem matchBits_agree_of_hits {q r : OpcodeRow} {hdr : BitVec 40} (hq : q.hits hdr = true) (hr : r.hits hdr = true) :
    q.matchBits &&& r.mask = r.matchBits &&& q.mask := by
  rw [← beq_iff_eq.mp hq, ← beq_iff_eq.mp hr, BitVec.and_assoc, BitVec.and_assoc, BitVec.and_comm q.mask]

/-- Any five bytes begin a well-formed frame. -/
theorem exists_wellFormed_of_header (b0 b1 b2 b3 b4 : Byte) :
    ∃ rest, frameWellFormed (b0 :: b1 :: b2 :: b3 :: b4 :: rest) = true := by
  refine ⟨List.replicate (lenByType (typeBits b0) / 8 - 5) 0, (frameWellFormed_iff _).mpr ⟨List.cons_ne_nil _ _, ?_⟩⟩
  obtain hl | hl := lenByType_cases (typeBits b0) <;> simp [hl]

/-- Settles O5: a header word begins a frame that decodes, whose row it hits; and no header word hits two rows. -/
theorem opcodeRowsMatchEveryKeyOnce : Obligations.OpcodeRowsMatchEveryKeyOnce := by
  refine ⟨rfl, fun hdr => ?_⟩
  obtain ⟨rest, hwf⟩ := exists_wellFormed_of_header (hdr.extractLsb' 32 8) (hdr.extractLsb' 24 8) (hdr.extractLsb' 16 8)
    (hdr.extractLsb' 8 8) (hdr.extractLsb' 0 8)
  obtain ⟨i, hi⟩ := decode_of_wellFormed hwf
  obtain ⟨hdr', hhdr, r, hmem, hhits, -⟩ := decodedInstructionIsTheMatchingRow _ i hi
  have hbytes : hdr' = hdr := by
    cases hhdr
    refine BitVec.eq_of_toNat_eq ?_
    simp only [toNat_append_eq, BitVec.extractLsb'_toNat, Nat.shiftRight_eq_div_pow]
    omega
  subst hbytes
  exact ⟨r, hmem, hhits, fun q hq hqhits => opcodeTable_disjoint q hq r hmem (matchBits_agree_of_hits hqhits hhits)⟩

/-! ### The fields of an instruction's frame -/

/-- FLIGHT_STATUS of an instruction's frame is its operand. -/
theorem flightStatus_encode (i : Instr) : flightStatus (encode i) = some i.fs := by
  cases i <;> exact congrArg some (low3Bits_append _ _)

/-- Settles O8: each of the four extractors reads back what the encoder put there. -/
theorem fieldsOfAFrameAreTheOperands : Obligations.FieldsOfAFrameAreTheOperands := fun i =>
  ⟨frameType_encode i, flightStatus_encode i, icaoAddress_encode i, embeddedCrc_encode i⟩

end Sys2Proof.Proofs
end

section
/-! PROOF. Frames and steps (42_dispatch.md R148, R149, 60_exceptions.md R170 to R175): the machine is the pipeline of the
spec, every transaction completes, and what it changes. -/

namespace Sys2Proof.Proofs

open Sys2Proof.Machine Sys2Proof.Laws

/-! ### The pipeline -/

/-- DISPATCH_CLASS of an instruction's frame is the class of its row. -/
theorem dispatchClass_encode (i : Instr) : dispatchClass (encode i) = some i.cls := by
  obtain ⟨b0, b1, b2, b3, b4, rest, hbytes⟩ : ∃ b0 b1 b2 b3 b4 rest, encode i = b0 :: b1 :: b2 :: b3 :: b4 :: rest := by
    cases i <;> exact ⟨_, _, _, _, _, _, rfl⟩
  have hdecode := decodeOfEncodeIsTheInstruction i
  rw [hbytes] at hdecode ⊢
  rw [dispatchClass_eq_classOfKey, cls_of_decode hdecode]

/-- On the frame of an instruction the pipeline passes the length check and is the instruction's record transaction. -/
theorem pipeline_encode (i : Instr) (s : State) : pipeline (encode i) s = exec i s := by
  have hlen := encode_length i
  have hpos : (encode i).length ≠ 0 := by have := lenByType_cases i.df; omega
  rw [exec_eq]
  unfold pipeline recordTransaction frameVerdict assembleRecord
  simp only [openTransaction_frame, frameType_encode, dispatchClass_encode, hpos, hlen, ne_eq, not_true_eq_false,
    if_false]
  split <;> rename_i hv <;> simp only [hv]
  cases baseRecord (encode i) <;> rfl

/-- A frame that is not well-formed leaves the pipeline at its length check. -/
theorem pipeline_malformed {b0 : Byte} {bs : List Byte} (h : 8 * (b0 :: bs).length ≠ lenByType (typeBits b0))
    (s : State) :
    pipeline (b0 :: bs) s =
      .next (s.afterDrop (.malformed (.length (b0 :: bs).length (lenByType (typeBits b0) / 8)))) := by
  have htype : frameType (b0 :: bs) = some (typeBits b0) := rfl
  unfold pipeline
  simp only [openTransaction_frame, htype, raise_openTransaction]
  exact (if_neg (Nat.succ_ne_zero bs.length)).trans (if_pos h)

/-- Settles O31: no bytes and a wrong byte count are the two errors of the decoder, with the same outcomes; any other frame
is that of the instruction it decodes to. -/
theorem theMachineRefinesTheFramePipeline : Obligations.TheMachineRefinesTheFramePipeline := by
  intro bytes s
  by_cases hwf : frameWellFormed bytes = true
  · obtain ⟨i, hi⟩ := decode_of_wellFormed hwf
    rw [runFrame_ok hi, ← encodeOfDecodeIsTheFrame bytes i hi, pipeline_encode]
  · cases bytes with
    | nil => rfl
    | cons b0 bs =>
      have hlen : 8 * (b0 :: bs).length ≠ lenByType (typeBits b0) := fun h =>
        hwf ((frameWellFormed_iff _).mpr ⟨List.cons_ne_nil _ _, h⟩)
      rw [runFrame_error (decode_eq_length_error hlen), pipeline_malformed hlen]

/-! ### Completion -/

/-- Settles O28: the checksum of an instruction's frame and the fields of its class can be read. -/
theorem everyFrameTransactionCompletes : Obligations.EveryFrameTransactionCompletes := exec_completes

/-- With no event pending a step waits. -/
theorem step_nil {s : State} (hin : s.hostInput = []) : step s = .next s := by
  unfold step
  rw [hin]

/-- What a step can answer: a next state, or one of the three stops of boot (70_reset_and_hazards.md R192). -/
theorem step_answers (s : State) :
    (∃ t, step s = .next t) ∨
      ∃ f, step s = .fault f ∧ (f = .notStarted ∨ f = .registryLoadFailure ∨ f = .registryReload) := by
  cases hin : s.hostInput with
  | nil => exact .inl ⟨s, step_nil hin⟩
  | cons e rest =>
    rw [step_cons hin]
    cases e with
    | frameIn bytes =>
      dsimp only [takeEvent]
      unfold acceptFrame
      split
      · exact .inl (runFrame_completes _ _)
      · exact .inr ⟨_, rfl, .inl rfl⟩
    | line text =>
      dsimp only [takeEvent]
      unfold acceptLine
      split
      · split
        · exact .inl ⟨_, rfl⟩
        · exact .inl ⟨_, rfl⟩
        · exact .inl (runFrame_completes _ _)
      · exact .inr ⟨_, rfl, .inl rfl⟩
    | transportIn => exact .inl ⟨_, rfl⟩
    | statusRead => exact .inl ⟨_, rfl⟩
    | reset => exact .inl ⟨_, rfl⟩
    | loadRegistry loaded =>
      dsimp only [takeEvent]
      unfold acceptRegistry
      split
      · cases loaded with
        | none => exact .inr ⟨_, rfl, .inr (.inl rfl)⟩
        | some reg => exact .inl ⟨_, rfl⟩
      · exact .inr ⟨_, rfl, .inr (.inr rfl)⟩

/-- Settles O38: the stops of boot are the only ones. -/
theorem noStepEverReadsBeyondTheFrame : Obligations.NoStepEverReadsBeyondTheFrame := by
  intro s
  obtain ⟨t, ht⟩ | ⟨f, hf, rfl | rfl | rfl⟩ := step_answers s
  · rw [ht]; exact ⟨nofun, nofun⟩
  all_goals rw [hf]; exact ⟨nofun, nofun⟩

/-! ### What a transaction changes and what it outputs -/

/-- Which fields the class fields add to the minimal record: those of the class, and crc_valid stays (42_dispatch.md R141 to
R146). -/
theorem classFields_presence {c : DispatchClass} {fb : List Byte} {reg : Registry} {icao : BitVec 24} {r : Record}
    (h : classFields c fb (minimalRecord reg icao) = some r) :
    r.crcValid = true ∧
    (r.presentAltitude = true ↔ c = .alt13 ∨ c = .posvel ∨ c = .pos) ∧
    (r.presentCallsign = true ↔ c = .ident) ∧
    (r.presentPosition = true ↔ c = .posvel ∨ c = .pos) ∧
    (r.presentVelocity = true ↔ c = .posvel) := by
  cases c
  case min =>
    cases h
    refine ⟨rfl, ?_, ?_, ?_, ?_⟩ <;> exact iff_of_false Bool.false_ne_true (by decide)
  all_goals
    dsimp only [classFields, alt13Fields, identFields, posvelFields, posFields] at h
    split at h
    · cases h
      simp [minimalRecord, Record.presentAltitude, Record.presentCallsign, Record.presentPosition,
        Record.presentVelocity]
    · cases h

/-- Settles O29: both ends of a transaction are record updates of the state before it, and the class fields leave the ICAO
address and crc_valid as they are. -/
theorem framesChangeOnlyStatusLatchAndPorts : Obligations.FramesChangeOnlyStatusLatchAndPorts := by
  intro i s t h
  obtain ⟨r, -, hr, rfl⟩ | ⟨c, e, -, rfl⟩ := exec_next h
  · obtain ⟨hicao, -⟩ := classFields_keeps hr
    obtain ⟨hcrc, -⟩ := classFields_presence hr
    exact ⟨rfl, rfl, rfl, rfl, .inl ⟨rfl, r, hicao, hcrc, by rw [State.afterRecord, hicao]; rfl⟩⟩
  · exact ⟨rfl, rfl, rfl, rfl, .inr ⟨rfl, c, e, rfl⟩⟩

/-- Settles O30: the record is the last output only after a RECORD outcome, and then it is the minimal record with the
fields of its class. -/
theorem presenceBitsAreThoseOfTheClass : Obligations.PresenceBitsAreThoseOfTheClass := by
  intro i s t r h hlast
  obtain ⟨r', -, hr, rfl⟩ | ⟨c, e, -, rfl⟩ := exec_next h
  · obtain rfl : r' = r := by simpa [State.afterRecord] using hlast
    obtain ⟨-, halt, hcall, hpos, hvel⟩ := classFields_presence hr
    obtain ⟨-, hreg⟩ := classFields_keeps hr
    refine ⟨halt, hcall, hpos, hvel, ?_⟩
    rw [Record.presentRegistry, hreg]
    rfl
  · simp [State.afterDrop] at hlast

/-- The verdict on an instruction's frame is `valid` exactly when it is CRC-valid (40_crc.md R84). -/
theorem frameVerdict_encode_eq_valid_iff (i : Instr) : frameVerdict (encode i) = some .valid ↔ CrcValid i := by
  obtain ⟨c, hc⟩ := computeCrc_isSome (lenByType_cases i.df) (encode_length i)
  rw [frameVerdict_encode hc, CrcValid, hc]
  by_cases heq : c = i.crc <;> simp [heq]

/-- Two instances with one registry answer an instruction alike. -/
theorem exec_outputs_eq {i : Instr} {s s' t : State} (hreg : s.registry = s'.registry) (h : exec i s = .next t) :
    ∃ t', exec i s' = .next t' ∧ newOutputs s t = newOutputs s' t' := by
  obtain ⟨r, hv, hr, rfl⟩ | ⟨c, e, hv, rfl⟩ := exec_next h
  · exact ⟨_, exec_of_valid ((frameVerdict_encode_eq_valid_iff i).mp hv) (hreg ▸ hr), by
      simp only [newOutputs_afterRecord]⟩
  · exact ⟨_, (exec_eq i s').trans (recordTransaction_mismatch hv), by
      rw [newOutputs_afterDrop, raise_openTransaction, newOutputs_afterDrop]⟩

/-- Settles O39: what a frame decodes to does not depend on the state, and an instruction looks at the registry alone. -/
theorem outputsDoNotDependOnEarlierFrames : Obligations.OutputsDoNotDependOnEarlierFrames := by
  intro bytes s s' t hreg h
  obtain ⟨i, hi, hexec⟩ | ⟨hd, rfl⟩ | ⟨nb, expected, hd, rfl⟩ := runFrame_next h
  · rw [runFrame_ok hi]
    exact exec_outputs_eq hreg hexec
  · exact ⟨_, runFrame_error hd s', by simp only [newOutputs_afterDrop]⟩
  · exact ⟨_, runFrame_error hd s', by simp only [newOutputs_afterDrop]⟩

/-! ### A step with a frame -/

/-- Settles O32: the latch an instruction finds is that of its own frame. -/
theorem aStepRunsTheDecodedInstruction : Obligations.AStepRunsTheDecodedInstruction := by
  intro s bytes rest i hin hb hi
  rw [step_presentsFrame hin hb, runFrame_ok hi]
  exact (exec_openTransaction i _ bytes).symm

/-- A table word decodes as its frame does. -/
theorem decode_of_decodeTableWord {nbits w : ℕ} {i : Instr} (h : decodeTableWord nbits w = some i) :
    decode (tableFrame nbits w) = .ok i := by
  unfold decodeTableWord at h
  split at h
  case h_1 hd => rw [hd, Option.some.inj h]
  case h_2 => cases h

/-- Settles O33: the placed word's frame is first in line, on FRAME_IN. -/
theorem aPlacedTableWordRunsNext : Obligations.APlacedTableWordRunsNext := fun s nbits w i h =>
  aStepRunsTheDecodedInstruction (s.withFetchWord nbits w) _ s.hostInput i (.inl rfl) rfl (decode_of_decodeTableWord h)

/-! ### One outcome per transaction -/

/-- What R170 says of a transaction from `s` to `t` that ends with outcome `o`. -/
def EndsWith (s t : State) (o : TxOutcome) : Prop :=
  (newOutputs s t).filter PortEvent.isOutcome = [.outcome o] ∧
  (o.code = 0 ∨ o.code = 1 ∨ o.code = 2) ∧
  ((newOutputs s t).filter PortEvent.isRecord).length = (if o.code = 0 then 1 else 0) ∧
  t.seenValid = (if o.code = 0 then true else s.seenValid)

/-- A record ends its transaction with code 0. -/
theorem endsWith_afterRecord (s : State) (rest : List HostEvent) (r : Record) :
    EndsWith s ({ s with hostInput := rest }.afterRecord r) .record := by
  have hout : newOutputs s ({ s with hostInput := rest }.afterRecord r) =
      [.regLookup r.icao r.registry, .outcome .record, .recordOut r] := newOutputs_of rfl
  rw [EndsWith, hout]
  exact ⟨rfl, .inl rfl, rfl, rfl⟩

/-- A drop ends its transaction with code 1 or 2. -/
theorem endsWith_afterDrop (s : State) (rest : List HostEvent) {o : TxOutcome} (ho : o ≠ .record) :
    EndsWith s ({ s with hostInput := rest }.afterDrop o) o := by
  have hout : newOutputs s ({ s with hostInput := rest }.afterDrop o) = [.outcome o] := newOutputs_of rfl
  rw [EndsWith, hout]
  cases o with
  | record => exact absurd rfl ho
  | malformed reason => exact ⟨rfl, .inr (.inl rfl), rfl, rfl⟩
  | checksumMismatch computed embedded => exact ⟨rfl, .inr (.inr rfl), rfl, rfl⟩

/-- Settles O36: a frame ends with a record or a drop and a rejected line with a drop, and a skipped line only takes its
turn. -/
theorem exactlyOneOutcomePerTransaction : Obligations.ExactlyOneOutcomePerTransaction := by
  intro s e rest hfirst
  refine ⟨fun t he h => ?transaction, fun text he hskip hb => ?skipped⟩
  case transaction =>
    cases step_next h with
    | frame hin hb hrun =>
      obtain ⟨r, rfl⟩ | ⟨o, ho, rfl⟩ := runFrame_record_or_drop hrun
      · exact ⟨.record, endsWith_afterRecord s _ r⟩
      · exact ⟨o, endsWith_afterDrop s _ ho⟩
    | rejectedLine hin hb hf => exact ⟨.malformed .hex, endsWith_afterDrop s _ nofun⟩
    | skippedLine hin hb hf =>
      cases hfirst.symm.trans hin
      simp [hf] at he
    | waits hin => cases hfirst.symm.trans hin
    | transport hin | statusRead hin | reset hin | registryLoad hin =>
      cases hfirst.symm.trans hin
      simp at he
  case skipped =>
    subst he
    exact ⟨_, step_skipped hfirst hskip hb, newOutputs_of (by simp), rfl⟩

end Sys2Proof.Proofs
end

section
/-! PROOF. Status, transport events, reset and boot (10_state.md R23, R24, R28, R29, 60_exceptions.md R176 to R178,
70_reset_and_hazards.md R190 to R196). -/

namespace Sys2Proof.Proofs

open Sys2Proof.Machine Sys2Proof.Laws

/-! ### The events that need no boot -/

/-- STATUS is the bit SEEN_VALID and seven zeros (10_state.md R23). -/
theorem statusRegister_eq (s : State) : s.statusRegister = if s.seenValid then 0x01 else 0x00 := by
  unfold State.statusRegister
  cases s.seenValid <;> rfl

/-- A status read is answered in any state. -/
theorem step_statusRead {s : State} {rest : List HostEvent} (hin : s.hostInput = .statusRead :: rest) :
    step s = .next ({ s with hostInput := rest }.afterPort (.statusRead (if s.seenValid then 0x01 else 0x00))) := by
  rw [← statusRegister_eq, step_cons hin]
  rfl

/-- A transport event is answered in any state. -/
theorem step_transportIn {s : State} {rest : List HostEvent} (hin : s.hostInput = .transportIn :: rest) :
    step s = .next ({ s with hostInput := rest }.afterPort (.faultOut (!s.seenValid))) :=
  step_cons hin

/-- A reset is taken in any state. -/
theorem step_reset {s : State} {rest : List HostEvent} (hin : s.hostInput = .reset :: rest) :
    step s = .next { s with hostInput := rest }.takeReset :=
  step_cons hin

/-- Settles O48: a step takes the first event, and there is none. -/
theorem waitingChangesNothing : Obligations.WaitingChangesNothing := fun _ => step_nil

/-- Settles O43: the register's bits are read off its two values. -/
theorem statusReadReturnsTheRegister : Obligations.StatusReadReturnsTheRegister := by
  intro s rest hin
  refine ⟨_, step_statusRead hin, ?_, fun k hk => ?_⟩
  · cases s.seenValid <;> rfl
  · obtain ⟨k, rfl⟩ := Nat.exists_eq_add_of_le' hk
    cases s.seenValid <;> simp [BitVec.getLsbD_ofNat, Nat.testBit_succ]

/-- Settles O44: the report is the negated status bit. -/
theorem transportFailuresAreGradedByTheStatusBit : Obligations.TransportFailuresAreGradedByTheStatusBit := by
  intro s rest hin
  rw [step_transportIn hin]
  cases s.seenValid <;> rfl

/-! ### Reset -/

/-- Settles O40: reset and power-up are states written out. -/
theorem resetStateIsTheLaunchState : Obligations.ResetStateIsTheLaunchState :=
  ⟨rfl, rfl, rfl, rfl, rfl⟩

/-- Settles O41: of the fields of a running instance a reset writes SEEN_VALID and the latch. -/
theorem resetOnlyClearsTheStatusBit : Obligations.ResetOnlyClearsTheStatusBit := by
  intro s rest hin hb
  exact ⟨_, step_reset hin, statusRegister_eq _, rfl, by simp [hb], rfl, rfl, rfl⟩

/-! ### The status bit over a run -/

/-- Without a reset SEEN_VALID stays set: a step keeps it or sets it, and presenting events does not touch it. -/
theorem seenValid_of_runsWithoutReset {s t : State} (run : RunsWithoutReset s t) (hs : s.seenValid = true) :
    t.seenValid = true := by
  induction run with
  | refl => exact hs
  | next _ noReset h ih =>
    obtain ⟨-, -, hset⟩ | ⟨-, ⟨rest, hin⟩, -⟩ | ⟨-, -, hkeep⟩ := step_seenValid_cases h
    · exact hset
    · exact absurd hin (noReset rest)
    · exact hkeep.trans ih
  | present _ _ ih => exact ih

/-- Settles O45: after a RECORD outcome SEEN_VALID is set and stays set until a reset; an event is answered with the bit as
it finds it. -/
theorem theStatusBitIsVisibleToLaterEvents : Obligations.TheStatusBitIsVisibleToLaterEvents := by
  intro s t h
  refine ⟨fun hrec u rest run => ?_, fun rest => ⟨fun hin => ?_, fun hin => ?_⟩⟩
  · obtain ⟨hwritten, -⟩ := seenValidIsWrittenByRecordAndResetOnly s t h
    have hset := seenValid_of_runsWithoutReset run (hwritten hrec)
    refine ⟨fun hin => ?_, fun hin => ?_⟩
    · rw [step_statusRead hin, hset]; rfl
    · rw [step_transportIn hin, hset]; rfl
  · cases h.symm.trans (step_statusRead hin)
    exact newOutputs_of rfl
  · cases h.symm.trans (step_transportIn hin)
    exact newOutputs_of rfl

/-! ### Boot -/

/-- Settles O46: the load and the reset are taken one after the other, a failed load stops, and a frame or a line before
boot has completed stops. -/
theorem framesWaitForBoot : Obligations.FramesWaitForBoot := by
  refine ⟨fun reg s rest hb hin => ?load, fun s rest hb hin => ?failed, fun s e rest hb hin he => ?early⟩
  case load =>
    have hload : step s = .next { s with registry := reg, boot := .awaitingReset, hostInput := .reset :: rest } := by
      rw [step_cons hin]
      exact if_pos hb
    exact ⟨_, hload, step_reset rfl⟩
  case failed =>
    rw [step_cons hin]
    exact if_pos hb
  case early =>
    rw [step_cons hin]
    obtain ⟨bytes, rfl⟩ | ⟨text, rfl⟩ := he
    · exact if_neg hb
    · exact if_neg hb

/-- A frame transaction leaves boot and the registry as they are. -/
theorem runFrame_keeps {bytes : List Byte} {s t : State} (h : runFrame bytes s = .next t) :
    t.boot = s.boot ∧ t.registry = s.registry := by
  obtain ⟨r, rfl⟩ | ⟨o, -, rfl⟩ := runFrame_record_or_drop h
  · exact ⟨rfl, rfl⟩
  · exact ⟨rfl, rfl⟩

/-- A step either is the registry load of boot or keeps the registry. -/
theorem step_registry_cases {s t : State} (h : step s = .next t) :
    (s.boot = .awaitingRegistry ∧ ∃ reg rest, s.hostInput = .loadRegistry (some reg) :: rest) ∨
      t.registry = s.registry := by
  cases step_next h with
  | registryLoad hin hb => exact .inl ⟨hb, _, _, hin⟩
  | frame _ _ hrun => exact .inr (runFrame_keeps hrun).2
  | waits | skippedLine | rejectedLine | transport | statusRead | reset => exact .inr rfl

/-- A running instance keeps running. -/
theorem step_keeps_running {s t : State} (hb : s.boot = .running) (h : step s = .next t) : t.boot = .running := by
  cases step_next h with
  | frame _ _ hrun => exact (runFrame_keeps hrun).1.trans hb
  | reset => simp [hb]
  | registryLoad _ hb' => cases hb.symm.trans hb'
  | waits | skippedLine | rejectedLine | transport | statusRead => exact hb

/-- Settles O47: the registry load, which alone writes the registry, is barred once an instance runs. -/
theorem theRegistryIsFixedOnceRunning : Obligations.TheRegistryIsFixedOnceRunning := by
  intro s t hb h
  obtain ⟨hb', -⟩ | hreg := step_registry_cases h
  · cases hb.symm.trans hb'
  · exact ⟨step_keeps_running hb h, hreg⟩

end Sys2Proof.Proofs
end

section
/-! PROOF. The two texts that belong to the host's side: lines (30_encoding.md R68, 42_dispatch.md R149) and the ICAO key
(R150). -/

namespace Sys2Proof.Proofs

open Sys2Proof.Machine Sys2Proof.Laws

/-- Settles O51: the front end's answers are the grammar's. -/
theorem theFrontEndAcceptsExactlyTheGrammar : Obligations.TheFrontEndAcceptsExactlyTheGrammar := fun _ hlf =>
  ⟨frontEnd_eq_frame_iff hlf, frontEnd_eq_skip_iff hlf, frontEnd_append_newline hlf⟩

/-- The digit of a four-bit number. -/
theorem hexChar_listed (d : BitVec 4) :
    some (hexChar d) =
      ['0', '1', '2', '3', '4', '5', '6', '7', '8', '9', 'a', 'b', 'c', 'd', 'e', 'f'][d.toNat]? := by
  revert d
  decide

/-- Settles O53: digit `k` is that of the address's nibble `5 − k`. -/
theorem icaoTextIsSixLowercaseHexDigits : Obligations.IcaoTextIsSixLowercaseHexDigits := by
  intro a
  have hdigit (k : ℕ) (hk : k < 6) : (icaoText a)[k]? = some (hexChar (a.extractLsb' (4 * (5 - k)) 4)) := by
    interval_cases k <;> rfl
  refine ⟨rfl, fun k hk => ?_⟩
  rw [hdigit k hk, hexChar_listed, BitVec.extractLsb'_toNat, Nat.shiftRight_eq_div_pow, pow_mul]
  rfl

end Sys2Proof.Proofs
end

section
/-! PROOF. Several instances (20_memory.md R48 to R50, 60_exceptions.md R180): a move is about one instance, so that moves of
different instances commute; the shared registry; the order of each instance's outputs. -/

namespace Sys2Proof.Proofs

open Sys2Proof.Machine Sys2Proof.Laws

/-! ### A move is about one instance -/

/-- The system after instance `j` has become `c` and its outputs `es` have reached the boundary. -/
def afterMove (sys : System) (j : ℕ) (c : Instance) (es : List PortEvent) : System :=
  { sys with cores := sys.cores.set j c, boundary := sys.boundary ++ es.map fun e => (j, e) }

theorem afterMove_cores_of_ne {j k : ℕ} (h : j ≠ k) (sys : System) (c : Instance) (es : List PortEvent) :
    (afterMove sys j c es).cores[k]? = sys.cores[k]? :=
  List.getElem?_set_ne h

/-- A move adds its outputs to those of its own instance. -/
theorem outputsOf_afterMove (sys : System) (j k : ℕ) (c : Instance) (es : List PortEvent) :
    (afterMove sys j c es).outputsOf k = sys.outputsOf k ++ if j = k then es else [] := by
  by_cases h : j = k <;> simp [afterMove, System.outputsOf, List.filter_map, Function.comp_def, h]

theorem outputsOf_afterMove_of_ne {j k : ℕ} (h : j ≠ k) (sys : System) (c : Instance) (es : List PortEvent) :
    (afterMove sys j c es).outputsOf k = sys.outputsOf k := by
  rw [outputsOf_afterMove, if_neg h, List.append_nil]

/-- Putting an instance back where it stands changes nothing. -/
theorem set_eq_self_of_getElem? {cores : List Instance} {j : ℕ} {c : Instance} (h : cores[j]? = some c) :
    cores.set j c = cores := by
  obtain ⟨hj, rfl⟩ := List.getElem?_eq_some_iff.mp h
  exact List.set_getElem_self hj

/-- An instance that presents no load and can step advances. -/
theorem advance_eq_next {sys : System} {k : ℕ} {c : Instance} {t : State} (hc : sys.cores[k]? = some c)
    (hp : c.presentsLoad = false) (ht : step (c.withRegistry sys.registry) = .next t) :
    sys.advance k = .next { sys with cores := sys.cores.set k t.own } := by
  unfold System.advance
  simp [hc, hp, ht]

/-- A delivery with nothing left to deliver changes nothing. -/
theorem deliver_eq_self {sys : System} {k : ℕ} {c : Instance} (hc : sys.cores[k]? = some c)
    (he : c.portLog[(sys.outputsOf k).length]? = none) : sys.deliver k = .next sys := by
  unfold System.deliver
  simp only [hc, he]

/-- Everything a move about instance `j` can do when it answers a next state: it is a change `afterMove` of that instance,
and it does the same in every system with the same registry in which that instance and its outputs are the same. -/
theorem move_next {sys sys' : System} {m : SystemMove} {j : ℕ} {rest : List SystemMove} (hm : m.core = some j)
    (h : systemStep { sys with schedule := m :: rest } = .next sys') :
    ∃ c c' es, sys.cores[j]? = some c ∧ sys' = { afterMove sys j c' es with schedule := rest } ∧
      ∀ (other : System) (rest' : List SystemMove), other.registry = sys.registry → other.cores[j]? = some c →
        other.outputsOf j = sys.outputsOf j →
        systemStep { other with schedule := m :: rest' } = .next { afterMove other j c' es with schedule := rest' } := by
  cases m with
  | load loaded => cases hm
  | advance k =>
    cases hm
    obtain ⟨c, t, hc, hp, ht, rfl⟩ := advance_next h
    refine ⟨c, t.own, [], hc, by simp [afterMove], fun other rest' hreg hc' _ => ?_⟩
    have hstep := advance_eq_next (sys := { other with schedule := rest' }) hc' hp (hreg ▸ ht)
    simpa [systemStep, afterMove] using hstep
  | deliver k =>
    cases hm
    obtain ⟨c, hc, ⟨e, he, rfl⟩ | ⟨he, rfl⟩⟩ := deliver_next h
    · refine ⟨c, c, [e], hc, by simp [afterMove, set_eq_self_of_getElem? hc], fun other rest' _ hc' hout => ?_⟩
      have hstep := deliver_eq_next (sys := { other with schedule := rest' }) hc' (hout ▸ he)
      simpa [systemStep, afterMove, set_eq_self_of_getElem? hc'] using hstep
    · refine ⟨c, c, [], hc, by simp [afterMove, set_eq_self_of_getElem? hc], fun other rest' _ hc' hout => ?_⟩
      have hstep := deliver_eq_self (sys := { other with schedule := rest' }) hc' (hout ▸ he)
      simpa [systemStep, afterMove, set_eq_self_of_getElem? hc'] using hstep

/-! ### Commutation -/

/-- Two steps are a step and a step. -/
theorem systemSteps_two {sys sys' : System} (h : systemSteps 2 sys = .next sys') :
    ∃ mid, systemStep sys = .next mid ∧ systemStep mid = .next sys' := by
  unfold systemSteps at h
  split at h
  case h_1 mid hmid =>
    refine ⟨mid, hmid, ?_⟩
    unfold systemSteps at h
    split at h
    case h_1 last hlast => exact hlast.trans h
    all_goals cases h
  all_goals cases h

/-- Two steps that answer next states, in one run. -/
theorem systemSteps_two_of {sys mid sys' : System} (h : systemStep sys = .next mid) (h' : systemStep mid = .next sys') :
    systemSteps 2 sys = .next sys' := by
  rw [systemSteps_succ h, systemSteps_succ h', systemSteps]

/-- Settles O57: each of two moves finds its own instance and outputs as they would be without the other, so both orders make
the same two changes. -/
theorem movesOfDifferentInstancesCommute : Obligations.MovesOfDifferentInstancesCommute := by
  intro sys a m n j k rest hm hn hjk h
  obtain ⟨mid, hfirst, hsecond⟩ := systemSteps_two h
  obtain ⟨c, c', es, hc, rfl, again⟩ := move_next hm hfirst
  obtain ⟨d, d', fs, hd, rfl, again'⟩ := move_next (sys := afterMove sys j c' es) hn hsecond
  have hfirst' := again' sys (m :: rest) rfl (afterMove_cores_of_ne hjk sys c' es ▸ hd)
    (outputsOf_afterMove_of_ne hjk sys c' es).symm
  have hsecond' := again (afterMove sys k d' fs) rest rfl ((afterMove_cores_of_ne hjk.symm sys d' fs).trans hc)
    (outputsOf_afterMove_of_ne hjk.symm sys d' fs)
  refine ⟨_, systemSteps_two_of hfirst' hsecond', rfl, List.set_comm c' d' hjk, rfl, fun i => ?_⟩
  change (afterMove (afterMove sys j c' es) k d' fs).outputsOf i = (afterMove (afterMove sys k d' fs) j c' es).outputsOf i
  simp only [outputsOf_afterMove]
  by_cases hj : j = i
  · have hk : k ≠ i := fun hk => hjk (hj.trans hk.symm)
    simp [hj, hk]
  · simp [hj]

/-! ### What a move leaves alone -/

/-- A step with a move first in line is that move with the rest of the schedule to come. -/
theorem systemStep_cons {sys : System} {m : SystemMove} {rest : List SystemMove} (h : sys.schedule = m :: rest) :
    systemStep sys = systemStep { sys with schedule := m :: rest } := by
  rw [← h]

/-- Settles O54: a move changes its own instance and outputs only, and a load keeps the schedule. -/
theorem instancesDoNotTouchOneAnother : Obligations.InstancesDoNotTouchOneAnother := by
  intro sys sys' m rest hsched h
  rw [systemStep_cons hsched] at h
  refine ⟨?schedule, fun k hm => ?others, fun k hm => ?advance, fun k hm => ?deliver⟩
  case schedule =>
    cases hcore : m.core with
    | some k =>
      obtain ⟨_, _, _, -, rfl, -⟩ := move_next hcore h
      rfl
    | none =>
      cases m with
      | load loaded =>
        obtain ⟨-, reg, -, rfl⟩ := loadRegistry_next h
        rfl
      | advance k | deliver k => cases hcore
  case others =>
    obtain ⟨c, c', es, -, rfl, -⟩ := move_next hm h
    exact ⟨rfl, fun j hj => ⟨afterMove_cores_of_ne hj.symm sys c' es, outputsOf_afterMove_of_ne hj.symm sys c' es⟩⟩
  case advance =>
    subst hm
    obtain ⟨c, t, hc, -, ht, rfl⟩ := advance_next h
    exact ⟨rfl, c, t, hc, ht, by rw [List.getElem?_set_self', hc]; rfl⟩
  case deliver =>
    subst hm
    obtain ⟨c, -, ⟨e, -, rfl⟩ | ⟨-, rfl⟩⟩ := deliver_next h <;> rfl

/-! ### The shared registry -/

/-- A record that leaves in a step carries the registry's answer (42_dispatch.md R147). -/
theorem registry_of_recordOut {s t : State} (h : step s = .next t) {r : Record} (hr : .recordOut r ∈ newOutputs s t) :
    r.registry = registryLookup s.registry r.icao := by
  cases step_next h with
  | @frame _ rest _ _ _ hrun =>
    obtain ⟨i, -, hexec⟩ | ⟨-, rfl⟩ | ⟨nb, expected, -, rfl⟩ := runFrame_next hrun
    · obtain ⟨hrecord, -⟩ := theRegistryIsConsultedOncePerRecord i { s with hostInput := rest } t hexec
      obtain ⟨hreg, -⟩ := hrecord r hr
      exact hreg
    · simp [newOutputs, State.afterDrop] at hr
    · simp [newOutputs, State.afterDrop] at hr
  | waits | skippedLine | rejectedLine | transport | statusRead | reset | registryLoad =>
    simp [newOutputs, State.afterPort] at hr

/-- Settles O55: only a load writes the registry, and it is barred once an instance has gone on; an advancing instance steps
with the shared registry. -/
theorem instancesShareOneFixedRegistry : Obligations.InstancesShareOneFixedRegistry := by
  intro sys sys' h
  refine ⟨fun ⟨c, hc, hb⟩ => ?fixed, fun k rest c c' hsched hc hc' r hr => ?answer⟩
  case fixed =>
    cases hsched : sys.schedule with
    | nil =>
      rw [systemStep, hsched] at h
      cases h
      rfl
    | cons m rest =>
      rw [systemStep_cons hsched] at h
      cases m with
      | load loaded =>
        obtain ⟨hall, -⟩ := loadRegistry_next h
        exact absurd (hall c hc) hb
      | advance k | deliver k =>
        obtain ⟨_, _, _, -, rfl, -⟩ := move_next rfl h
        rfl
  case answer =>
    rw [systemStep_cons hsched] at h
    obtain ⟨d, t, hd, -, ht, rfl⟩ := advance_next h
    cases hc.symm.trans hd
    have hown : t.own = c' := by simpa [List.getElem?_set_self', hc] using hc'
    subst hown
    exact registry_of_recordOut ht hr

/-- Settles O56: the load looks at the boot phases of all instances, and an instance with a load of its own does not
step. -/
theorem theRegistryIsLoadedOnceForAllInstances : Obligations.TheRegistryIsLoadedOnceForAllInstances := by
  intro sys rest
  refine ⟨fun hall => ⟨fun reg hsched => ?load, fun hsched => ?failed⟩, fun ⟨c, hc, hb⟩ loaded hsched => ?reload,
    fun k c loaded more hsched hc hin => ?own⟩
  case load => rw [systemStep_cons hsched]; exact if_pos (by simpa using hall)
  case failed => rw [systemStep_cons hsched]; exact if_pos (by simpa using hall)
  case reload => rw [systemStep_cons hsched]; exact if_neg fun hall => hb (by simpa using List.all_eq_true.mp hall c hc)
  case own =>
    have hp : c.presentsLoad = true := by unfold Instance.presentsLoad; rw [hin]
    rw [systemStep_cons hsched, systemStep]
    unfold System.advance
    simp [hc, hp]

/-! ### Reset and the order of outputs -/

/-- With nothing at the boundary every instance's outputs are a first part of its log. -/
theorem outputsOf_prefix_of_boundary_nil {sys : System} (h : sys.boundary = []) (k : ℕ) (c : Instance) :
    sys.outputsOf k <+: c.portLog := by
  rw [System.outputsOf, h]
  exact List.nil_prefix

/-- Settles O58: N_INSTANCES copies of one instance, and an empty boundary. -/
theorem systemResetIsEveryInstanceAtReset : Obligations.SystemResetIsEveryInstanceAtReset := by
  refine ⟨List.length_replicate, Nat.le_add_left 1 _, fun c hc => ?_,
    fun k c _ => outputsOf_prefix_of_boundary_nil rfl k c,
    List.length_replicate, fun c hc => ?_, fun k c _ => outputsOf_prefix_of_boundary_nil rfl k c⟩
  · rw [List.eq_of_mem_replicate hc]
    rfl
  · rw [List.eq_of_mem_replicate hc]
    exact ⟨rfl, rfl⟩

/-- A step only adds to the log. -/
theorem portLog_prefix_of_step {s t : State} (h : step s = .next t) : s.portLog <+: t.portLog := by
  cases step_next h with
  | frame _ _ hrun =>
    obtain ⟨r, rfl⟩ | ⟨o, -, rfl⟩ := runFrame_record_or_drop hrun
    · exact List.prefix_append _ _
    · exact List.prefix_append _ _
  | rejectedLine | transport | statusRead => exact List.prefix_append _ _
  | waits | skippedLine | reset | registryLoad => exact List.prefix_refl _

/-- A first part of a list and the element after it are a first part. -/
theorem prefix_concat_of_getElem? {α : Type} {l log : List α} {e : α} (h : l <+: log) (he : log[l.length]? = some e) :
    l ++ [e] <+: log := by
  obtain ⟨later, rfl⟩ := h
  cases later with
  | nil => simp at he
  | cons x later =>
    obtain rfl : x = e := by simpa using he
    exact ⟨later, by simp⟩

/-- Settles O59: a load and an advance only add to logs, and a delivery takes the next output of a log. -/
theorem eachInstancesOutputsKeepTheirOrder : Obligations.EachInstancesOutputsKeepTheirOrder := by
  intro sys sys' hinv h j c' hc'
  cases hsched : sys.schedule with
  | nil =>
    rw [systemStep, hsched] at h
    cases h
    exact hinv j c' hc'
  | cons m rest =>
    rw [systemStep_cons hsched] at h
    cases m with
    | load loaded =>
      obtain ⟨-, reg, -, rfl⟩ := loadRegistry_next h
      obtain ⟨c, hc, rfl⟩ : ∃ c, sys.cores[j]? = some c ∧ { c with boot := .awaitingReset } = c' := by simpa using hc'
      exact hinv j c hc
    | advance k =>
      obtain ⟨c, t, hc, -, ht, rfl⟩ := advance_next h
      by_cases hjk : k = j
      · subst hjk
        have hown : t.own = c' := by simpa [List.getElem?_set_self', show sys.cores[k]? = some c from hc] using hc'
        subst hown
        exact (hinv k c hc).trans (portLog_prefix_of_step ht)
      · exact hinv j c' ((List.getElem?_set_ne hjk).symm.trans hc')
    | deliver k =>
      obtain ⟨c, hc, ⟨e, he, rfl⟩ | ⟨-, rfl⟩⟩ := deliver_next h
      · rw [outputsOf_append]
        split
        case isTrue hjk =>
          subst hjk
          cases hc.symm.trans hc'
          exact prefix_concat_of_getElem? (hinv k _ hc) he
        case isFalse => exact hinv j c' hc'
      · exact hinv j c' hc'

end Sys2Proof.Proofs
end

section
/-! PROOF. The properties of COMPUTE_CRC (40_crc.md R85, R86) and the table they rest on (10_state.md R21). -/

namespace Sys2Proof.Proofs

open Sys2Proof.Machine Sys2Proof.Laws

/-! ### The table -/

/-- A remainder times `x`, reduced by the generator `0x1FFF409` (10_state.md R21). -/
def timesX (e : BitVec 24) : BitVec 24 :=
  if e.getLsbD 23 = true then (e <<< 1) ^^^ 0xFFF409 else e <<< 1

/-- Each of the first 87 entries is `x` times the next one. -/
theorem crcTable_getD_eq_timesX : ∀ k < 87, crcTable.getD k 0 = timesX (crcTable.getD (k + 1) 0) := by
  decide

/-- Entry 87 is `x^24` reduced. -/
theorem crcTable_getD_87 : crcTable.getD 87 0 = 0xFFF409 := by decide

/-- The entries of the checksum's own bits are 0. -/
theorem crcTable_getD_eq_zero : ∀ k < 112, 88 ≤ k → crcTable.getD k 0 = 0 := by
  decide

/-- An entry of the table, as it is read. -/
theorem crcTable_getElem? {k : ℕ} (hk : k < 112) : crcTable[k]? = some (crcTable.getD k 0) := by
  rw [List.getD_eq_getElem?_getD, List.getElem?_eq_getElem (crcTable_length ▸ hk), Option.getD_some]

/-- Settles O11: the recurrence and the zero tail are checks of the entries. -/
theorem crcTableEntriesAreTheRemainders : Obligations.CrcTableEntriesAreTheRemainders := by
  refine ⟨crcTable_length, ?_, fun k hk => ⟨_, crcTable_getElem? (by omega), ?_⟩, fun k hlo hhi => ?_⟩
  · rw [crcTable_getElem? (by omega), crcTable_getD_87]
  · rw [crcTable_getElem? (by omega), crcTable_getD_eq_timesX k hk, timesX]
  · rw [crcTable_getElem? hhi, crcTable_getD_eq_zero k hhi hlo]

/-! ### The exclusive or over the set bits -/

/-- One bit more adds its entry exactly when it is 1. -/
theorem xorEntries_setBits_succ (table : List (BitVec 24)) (off : ℕ) (fb : List Byte) (n : ℕ) :
    xorEntries table off (setBits fb (n + 1)) =
      xorEntries table off (setBits fb n) ^^^ if bitAt fb n = some true then table.getD (n + off) 0 else 0 := by
  rw [setBits_succ]
  split
  · exact xorEntries_append_singleton ..
  · simp

/-- A bit of the byte-wise exclusive or of two frames. -/
theorem bitAt_zipWith_xor {a b : List Byte} {j : ℕ} {x y : Bool} (ha : bitAt a j = some x) (hb : bitAt b j = some y) :
    bitAt (List.zipWith (· ^^^ ·) a b) j = some (x ^^ y) := by
  unfold bitAt byteAt at *
  cases ha' : a[j / 8]? <;> cases hb' : b[j / 8]? <;> simp_all [List.getElem?_zipWith]

/-- The exclusive or over the set bits is linear in the frame. -/
theorem xorEntries_setBits_zipWith (table : List (BitVec 24)) (off : ℕ) {a b : List Byte} {n : ℕ}
    (ha : n ≤ 8 * a.length) (hb : n ≤ 8 * b.length) :
    xorEntries table off (setBits (List.zipWith (· ^^^ ·) a b) n) =
      xorEntries table off (setBits a n) ^^^ xorEntries table off (setBits b n) := by
  induction n with
  | zero => simp [setBits, xorEntries]
  | succ n ih =>
    obtain ⟨x, hx⟩ := bitAt_isSome (fb := a) (j := n) (by omega)
    obtain ⟨y, hy⟩ := bitAt_isSome (fb := b) (j := n) (by omega)
    have hentry (e : BitVec 24) : (if some (x ^^ y) = some true then e else 0) =
        (if some x = some true then e else 0) ^^^ if some y = some true then e else 0 := by
      cases x <;> cases y <;> simp
    simp only [xorEntries_setBits_succ, ih (by omega) (by omega), bitAt_zipWith_xor hx hy, hx, hy, hentry]
    ac_rfl

/-- Settles O14: the entries of the bits that differ remain, those of common bits cancel. -/
theorem computeCrcIsLinear : Obligations.ComputeCrcIsLinear := by
  intro a b len x y hl ha hb hx hy
  have hlen : 8 * (List.zipWith (· ^^^ ·) a b).length = len := by rw [List.length_zipWith]; omega
  rw [computeCrc_eq_xorEntries hl ha, Option.some.injEq] at hx
  rw [computeCrc_eq_xorEntries hl hb, Option.some.injEq] at hy
  rw [computeCrc_eq_xorEntries hl hlen, xorEntries_setBits_zipWith _ _ ha.ge hb.ge, hx, hy]

/-! ### The checksum's own bits -/

/-- Bits whose entries are 0 add nothing. -/
theorem xorEntries_setBits_of_zero {table : List (BitVec 24)} {off m n : ℕ} (hmn : m ≤ n)
    (h : ∀ j, m ≤ j → j < n → table.getD (j + off) 0 = 0) (fb : List Byte) :
    xorEntries table off (setBits fb n) = xorEntries table off (setBits fb m) := by
  induction n, hmn using Nat.le_induction with
  | base => rfl
  | succ n hmn ih =>
    rw [xorEntries_setBits_succ, h n hmn (Nat.lt_succ_self n), ite_self,
      ih fun j hm hj => h j hm (hj.trans (Nat.lt_succ_self n))]
    exact BitVec.xor_zero

/-- The checksum of a length-correct frame looks at its data bits only, those before the last 24. -/
theorem computeCrc_eq_xorEntries_data {fb : List Byte} {len : ℕ} (hl : len = 56 ∨ len = 112) (h : 8 * fb.length = len) :
    computeCrc fb len = some (xorEntries crcTable (crcOffset len) (setBits fb (len - 24))) := by
  rw [computeCrc_eq_xorEntries hl h, xorEntries_setBits_of_zero (Nat.sub_le len 24)]
  intro j hlo hhi
  obtain rfl | rfl := hl
  · exact crcTable_getD_eq_zero _ (by simp [crcOffset]; omega) (by simp [crcOffset]; omega)
  · exact crcTable_getD_eq_zero _ (by simp [crcOffset]; omega) (by simp [crcOffset]; omega)

/-- Frames with the same first bytes have the same bits there. -/
theorem setBits_congr_of_take {a b : List Byte} {m n : ℕ} (h : a.take m = b.take m) (hn : n ≤ 8 * m) :
    setBits a n = setBits b n := by
  refine List.filter_congr fun j hj => ?_
  have hbyte : byteAt a (j / 8) = byteAt b (j / 8) := by
    have hm : j / 8 < m := by have := List.mem_range.mp hj; omega
    rw [byteAt, byteAt, ← List.getElem?_take_of_lt hm, h, List.getElem?_take_of_lt hm]
  rw [bitAt, bitAt, hbyte]

/-- Settles O15: the checksum looks at the data bits only, and they are in the bytes the two frames share. -/
theorem checksumBitsDoNotFeedBack : Obligations.ChecksumBitsDoNotFeedBack := by
  intro a b len hl ha hb htake
  have hlen : a.length = b.length := by omega
  rw [computeCrc_eq_xorEntries_data hl ha, computeCrc_eq_xorEntries_data hl hb,
    setBits_congr_of_take (hlen ▸ htake) (by omega)]

/-! ### The one valid checksum -/

theorem df_withCrc (i : Instr) (d : BitVec 24) : (i.withCrc d).df = i.df := by
  cases i <;> rfl

theorem crc_withCrc (i : Instr) (d : BitVec 24) : (i.withCrc d).crc = d := by
  cases i <;> rfl

/-- All but the last three bytes of a short frame. -/
theorem take_shortFrame (df : BitVec 5) (fs : BitVec 3) (icao crc : BitVec 24) :
    (shortFrame df fs icao crc).take ((shortFrame df fs icao crc).length - 3) =
      [df ++ fs, icao.extractLsb' 16 8, icao.extractLsb' 8 8, icao.extractLsb' 0 8] := rfl

/-- All but the last three bytes of a long frame. -/
theorem take_longFrame (df : BitVec 5) (fs : BitVec 3) (icao : BitVec 24) (b4 : Byte) (body : BitVec 48)
    (crc : BitVec 24) :
    (longFrame df fs icao b4 body crc).take ((longFrame df fs icao b4 body crc).length - 3) =
      [df ++ fs, icao.extractLsb' 16 8, icao.extractLsb' 8 8, icao.extractLsb' 0 8, b4,
        body.extractLsb' 40 8, body.extractLsb' 32 8, body.extractLsb' 24 8,
        body.extractLsb' 16 8, body.extractLsb' 8 8, body.extractLsb' 0 8] := rfl

/-- Another checksum operand changes the last three bytes of the frame only. -/
theorem encode_withCrc_take (i : Instr) (d : BitVec 24) :
    (encode (i.withCrc d)).take ((encode (i.withCrc d)).length - 3) = (encode i).take ((encode i).length - 3) := by
  cases i <;> simp only [encode, Instr.withCrc, take_shortFrame, take_longFrame]

/-- The checksum computed over an instruction's frame does not depend on the one it carries. -/
theorem computeCrc_encode_withCrc (i : Instr) (d : BitVec 24) :
    computeCrc (encode (i.withCrc d)) (lenByType i.df) = computeCrc (encode i) (lenByType i.df) :=
  checksumBitsDoNotFeedBack _ _ _ (lenByType_cases i.df) (df_withCrc i d ▸ encode_length (i.withCrc d)) (encode_length i)
    (encode_withCrc_take i d)

/-- Settles O16: the frame is valid when it carries what is computed over it, which does not depend on what it carries. -/
theorem exactlyOneChecksumMakesAFrameValid : Obligations.ExactlyOneChecksumMakesAFrameValid := by
  intro i
  obtain ⟨c, hc⟩ := computeCrc_isSome (lenByType_cases i.df) (encode_length i)
  refine ⟨c, hc, fun d => ?_⟩
  rw [frameVerdict_encode_eq_valid_iff, CrcValid, df_withCrc, crc_withCrc, computeCrc_encode_withCrc, hc,
    Option.some.injEq, eq_comm]

end Sys2Proof.Proofs
end

section
/-! PROOF. COMPUTE_CRC as a polynomial remainder (40_crc.md R86): words as polynomials over GF(2), and the table's entries as
powers of `x` modulo the generator. -/

namespace Sys2Proof.Proofs

open Sys2Proof.Machine Sys2Proof.Laws Polynomial

/-- The polynomial over GF(2) whose coefficients are the bits of a word. -/
noncomputable def wordPoly (c : BitVec 24) : (ZMod 2)[X] :=
  ∑ k ∈ Finset.range 24, if c.getLsbD k then X ^ k else 0

/-- The Mode S generator (40_crc.md R86). -/
noncomputable def generator : (ZMod 2)[X] :=
  (∑ k ∈ Finset.Icc 12 24, X ^ k) + X ^ 10 + X ^ 3 + 1

/-- The generator without its leading term is the word of the table's recurrence. -/
theorem generator_eq : generator = X ^ 24 + wordPoly 0xFFF409 := by
  simp [generator, wordPoly, Finset.sum_range_succ, BitVec.getLsbD_ofNat, Nat.testBit, Finset.sum_Icc_succ_top]
  ring

theorem degree_wordPoly_lt (c : BitVec 24) : (wordPoly c).degree < (24 : ℕ) := by
  rw [← mem_degreeLT]
  refine Submodule.sum_mem _ fun k hk => ?_
  rw [mem_degreeLT]
  split
  · rw [degree_X_pow]
    exact_mod_cast Finset.mem_range.mp hk
  · rw [degree_zero]
    exact WithBot.bot_lt_coe 24

theorem generator_monic : generator.Monic := generator_eq ▸ monic_X_pow_add (degree_wordPoly_lt _)

theorem degree_generator : generator.degree = (24 : ℕ) := by
  rw [generator_eq, degree_add_eq_left_of_degree_lt, degree_X_pow]
  rw [degree_X_pow]
  exact degree_wordPoly_lt _

/-- The leading term of the generator is congruent to the rest of it. -/
theorem mk_X_pow_24 : AdjoinRoot.mk generator (X ^ 24) = AdjoinRoot.mk generator (wordPoly 0xFFF409) := by
  have h : X ^ 24 = wordPoly 0xFFF409 + generator := by
    rw [generator_eq, add_left_comm, CharTwo.add_self_eq_zero, add_zero]
  rw [h, map_add, AdjoinRoot.mk_self, add_zero]

/-- A word that is congruent to a polynomial modulo the generator is its remainder. -/
theorem wordPoly_eq_modByMonic {c : BitVec 24} {f : (ZMod 2)[X]}
    (h : AdjoinRoot.mk generator (wordPoly c) = AdjoinRoot.mk generator f) : wordPoly c = f %ₘ generator := by
  obtain ⟨q, hq⟩ := AdjoinRoot.mk_eq_mk.mp h.symm
  refine ((div_modByMonic_unique q _ generator_monic ⟨?_, ?_⟩).2).symm
  · rw [← hq]; ring
  · rw [degree_generator]; exact degree_wordPoly_lt c

/-- Exclusive or is addition over GF(2). -/
theorem wordPoly_xor (a b : BitVec 24) : wordPoly (a ^^^ b) = wordPoly a + wordPoly b := by
  rw [wordPoly, wordPoly, wordPoly, ← Finset.sum_add_distrib]
  refine Finset.sum_congr rfl fun k _ => ?_
  cases ha : a.getLsbD k <;> cases hb : b.getLsbD k <;> simp [ha, hb, CharTwo.add_self_eq_zero]

/-- A shifted word is `x` times the word without its top bit. -/
theorem X_mul_wordPoly (e : BitVec 24) :
    X * wordPoly e = wordPoly (e <<< 1) + if e.getLsbD 23 then X ^ 24 else 0 := by
  rw [wordPoly, wordPoly, Finset.mul_sum, Finset.sum_range_succ, Finset.sum_range_succ' _ 23]
  have hshift : ∀ k ∈ Finset.range 23, (X * if e.getLsbD k then X ^ k else 0 : (ZMod 2)[X]) =
      if (e <<< 1).getLsbD (k + 1) then X ^ (k + 1) else 0 := fun k hk => by
    have := Finset.mem_range.mp hk
    simp [← pow_succ', show k < 24 by omega, show k + 1 < 24 by omega]
  rw [Finset.sum_congr rfl hshift]
  simp [← pow_succ']

/-- The recurrence of the table is multiplication by `x` modulo the generator. -/
theorem mk_wordPoly_timesX (e : BitVec 24) :
    AdjoinRoot.mk generator (wordPoly (timesX e)) = AdjoinRoot.root generator * AdjoinRoot.mk generator (wordPoly e) := by
  rw [← AdjoinRoot.mk_X, ← map_mul, X_mul_wordPoly, timesX]
  split
  · rw [wordPoly_xor, map_add, map_add, mk_X_pow_24]
  · rw [add_zero]

/-- Entry `k` of the table is `x^(111 − k)` modulo the generator (10_state.md R21). -/
theorem mk_wordPoly_crcTable {k : ℕ} (hk : k ≤ 87) :
    AdjoinRoot.mk generator (wordPoly (crcTable.getD k 0)) = AdjoinRoot.root generator ^ (111 - k) := by
  induction hk using Nat.decreasingInduction with
  | self => rw [crcTable_getD_87, ← mk_X_pow_24, map_pow, AdjoinRoot.mk_X]
  | of_succ k hk ih =>
    rw [crcTable_getD_eq_timesX k hk, mk_wordPoly_timesX, ih, ← pow_succ', show 111 - (k + 1) + 1 = 111 - k by omega]

/-- The exclusive or over the first `n` bits is a sum of powers modulo the generator. -/
theorem mk_wordPoly_xorEntries {off n : ℕ} (hn : n + off ≤ 88) (fb : List Byte) :
    AdjoinRoot.mk generator (wordPoly (xorEntries crcTable off (setBits fb n))) =
      AdjoinRoot.mk generator (∑ j ∈ Finset.range n, if bitAt fb j = some true then X ^ (111 - (j + off)) else 0) := by
  induction n with
  | zero => simp [xorEntries, setBits, wordPoly]
  | succ n ih =>
    rw [xorEntries_setBits_succ, wordPoly_xor, map_add, ih (by omega), Finset.sum_range_succ, map_add]
    split
    · rw [mk_wordPoly_crcTable (by omega), map_pow, AdjoinRoot.mk_X]
    · simp [wordPoly]

/-- Settles O17: entry `j + off` is the power of `x` at which data bit `j` stands in `D(x)·x^24`, modulo the generator. -/
theorem computeCrcIsThePolynomialRemainder : Obligations.ComputeCrcIsThePolynomialRemainder := by
  intro fb len c hl hlen hc
  rw [computeCrc_eq_xorEntries_data hl hlen, Option.some.injEq] at hc
  have hoff : len - 24 + crcOffset len = 88 := by obtain rfl | rfl := hl <;> rfl
  refine wordPoly_eq_modByMonic ?_
  rw [← hc, mk_wordPoly_xorEntries hoff.le, Finset.sum_mul]
  refine congrArg _ (Finset.sum_congr rfl fun j hj => ?_)
  have := Finset.mem_range.mp hj
  rw [ite_mul, zero_mul, ← pow_add, show 111 - (j + crcOffset len) = len - 25 - j + 24 by omega]

end Sys2Proof.Proofs
end

section
/-! PROOF. The values of the extractors (41_extract.md R105 to R111): altitudes, callsigns, and the correctly rounded root that
is the speed. -/

namespace Sys2Proof.Proofs

open Sys2Proof.Machine Sys2Proof.Laws

/-! ### Altitudes -/

/-- The altitude of a code is not wrapped. -/
theorem altitudeOfCode_toInt (n : BitVec 11) : (altitudeOfCode n).toInt = 25 * n.toNat - 1000 := by
  have := n.isLt
  rw [altitudeOfCode, BitVec.toInt_ofInt, Int.bmod_eq_of_le] <;> omega

/-- ALT13 is 0 or the altitude of a code. -/
theorem alt13_cases {fb : List Byte} {a : BitVec 32} (h : alt13 fb = some a) : a = 0 ∨ ∃ n, a = altitudeOfCode n := by
  unfold alt13 at h
  split at h
  · split at h
    · exact .inr ⟨_, (Option.some.inj h).symm⟩
    · exact .inl (Option.some.inj h).symm
  · cases h

/-- ALT12 is 0 or the altitude of a code. -/
theorem alt12_cases {fb : List Byte} {a : BitVec 32} (h : alt12 fb = some a) : a = 0 ∨ ∃ n, a = altitudeOfCode n := by
  unfold alt12 at h
  split at h
  · split at h
    · exact .inr ⟨_, (Option.some.inj h).symm⟩
    · exact .inl (Option.some.inj h).symm
  · cases h

/-- Settles O18: an altitude is that of an 11-bit code, or 0, which is that of code 40. -/
theorem altitudesStayInTheirRange : Obligations.AltitudesStayInTheirRange := by
  intro fb a h
  obtain rfl | ⟨n, rfl⟩ := h.elim alt13_cases alt12_cases
  · exact ⟨40, by decide, by decide⟩
  · exact ⟨n.toNat, Nat.le_of_lt_succ n.isLt, altitudeOfCode_toInt n⟩

/-! ### Callsigns -/

/-- As many codes as are asked for. -/
theorem length_callsignCodes {fb : List Byte} {n : ℕ} {codes : List (BitVec 6)} (h : callsignCodes fb n = some codes) :
    codes.length = n := by
  induction n generalizing codes with
  | zero => cases h; rfl
  | succ n ih =>
    rw [callsignCodes] at h
    split at h
    case h_1 hcs _ => cases h; simp [ih hcs]
    case h_2 => cases h

/-- A callsign is eight characters of CHARSET without the spaces at their end. -/
theorem callsign_eq_rdropWhile {fb : List Byte} {t : Text} (h : callsign fb = some t) :
    ∃ chars : Text, chars.length = 8 ∧ (∀ c ∈ chars, c ∈ charset) ∧ t = chars.rdropWhile (· == ' ') := by
  unfold callsign at h
  split at h
  case h_1 codes hcodes =>
    obtain ⟨chars, hchars, hlen, hmem⟩ := charsOfCodes_isSome codes
    rw [hchars] at h
    exact ⟨chars, hlen.trans (length_callsignCodes hcodes), hmem, (Option.some.inj h).symm⟩
  case h_2 => cases h

/-- Settles O19: trimming keeps a first part of the eight characters, and stops only before a space. -/
theorem callsignsAreTrimmedCharsetText : Obligations.CallsignsAreTrimmedCharsetText := by
  intro fb t h
  obtain ⟨chars, hlen, hmem, rfl⟩ := callsign_eq_rdropWhile h
  have hprefix := List.rdropWhile_prefix (· == ' ') chars
  refine ⟨hlen ▸ hprefix.length_le, fun c hc => hmem c (hprefix.subset hc), fun hlast => ?_,
    List.rdropWhile_idempotent (· == ' ') chars⟩
  obtain ⟨hne, hspace⟩ := List.mem_getLast?_eq_getLast hlast
  exact List.rdropWhile_last_not (· == ' ') chars hne (by simp [← hspace])

/-! ### The root of an integer -/

/-- Deciding the low `k` bits keeps the root between the bits decided so far and the next number above them. -/
theorem sqrtFloor_spec {k n q : ℕ} (hlo : q * q ≤ n) (hhi : n < (q + 2 ^ k) * (q + 2 ^ k)) :
    sqrtFloor k n q * sqrtFloor k n q ≤ n ∧ n < (sqrtFloor k n q + 1) * (sqrtFloor k n q + 1) := by
  induction k generalizing q with
  | zero => exact ⟨hlo, hhi⟩
  | succ k ih =>
    rw [sqrtFloor]
    split
    case isTrue h => exact ih h (by rwa [Nat.add_assoc, ← Nat.two_mul, ← pow_succ'])
    case isFalse h => exact ih hlo (Nat.lt_of_not_le h)

/-- The nearest integer is less than a half away from the root: the root is never half an integer. -/
theorem sqrtNearest_near {n : ℕ} (hn : n < 2 ^ 106) : |(sqrtNearest n : ℝ) - √n| < 1 / 2 := by
  obtain ⟨hlo, hhi⟩ := sqrtFloor_spec (k := 53) (n := n) (q := 0) (Nat.zero_le n) (by omega)
  rw [sqrtNearest]
  generalize sqrtFloor 53 n 0 = q at hlo hhi
  have hlo' : (q : ℝ) ≤ √n := Real.le_sqrt_of_sq_le (by rw [pow_two]; exact_mod_cast hlo)
  have hhi' : √n < q + 1 := (Real.sqrt_lt' (by positivity)).mpr (by rw [pow_two]; exact_mod_cast hhi)
  split
  case isTrue h =>
    have hhalf : (q : ℝ) + 1 / 2 < √n := Real.lt_sqrt_of_sq_lt (by
      have : (q * q + q + 1 : ℝ) ≤ n := by exact_mod_cast h
      nlinarith)
    rw [abs_lt]
    push_cast
    constructor <;> linarith
  case isFalse h =>
    have hhalf : √n < (q : ℝ) + 1 / 2 := (Real.sqrt_lt' (by positivity)).mpr (by
      have : (n : ℝ) ≤ q * q + q := by exact_mod_cast Nat.le_of_not_lt h
      nlinarith)
    rw [abs_lt]
    constructor <;> linarith

/-! ### The grid of binary64 values -/

/-- The size of a binary64 value is a whole number below `2^53`, scaled. -/
theorem abs_binary64Value {y : Binary64} {w : ℚ} (h : binary64Value y = some w) :
    ∃ m x : ℕ, m < 2 ^ 53 ∧ |w| = m * 2 ^ x / 2 ^ 1075 := by
  have hfrac : (y.extractLsb' 0 52).toNat < 2 ^ 52 := BitVec.isLt _
  simp only [binary64Value, Option.ite_none_left_eq_some, Option.some.injEq] at h
  obtain ⟨-, rfl⟩ := h
  rw [apply_ite abs, abs_neg, ite_self]
  split
  · refine ⟨(y.extractLsb' 0 52).toNat, 1, by omega, ?_⟩
    rw [abs_of_nonneg (by positivity), pow_one]
  · refine ⟨2 ^ 52 + (y.extractLsb' 0 52).toNat, (y.extractLsb' 52 11).toNat, by omega, ?_⟩
    rw [abs_of_nonneg (by positivity), Nat.cast_add, Nat.cast_pow, Nat.cast_ofNat]

/-- From `2^(52 − k)` on, binary64 values are multiples of `2^−k`. -/
theorem mul_pow_eq_natCast_of_binary64Value {y : Binary64} {w : ℚ} (h : binary64Value y = some w) {k : ℕ}
    (hw : 2 ^ 52 ≤ w * 2 ^ k) : ∃ z : ℕ, w * 2 ^ k = z := by
  obtain ⟨m, x, hm, habs⟩ := abs_binary64Value h
  have hpos : 0 < w := pos_of_mul_pos_left (lt_of_lt_of_le (by positivity) hw) (by positivity)
  have hscaled : w * 2 ^ k * 2 ^ 1075 = m * 2 ^ (x + k) := by
    rw [← abs_of_pos hpos, habs, pow_add]
    field_simp
  have hscale : (0 : ℚ) < 2 ^ 1075 := by positivity
  obtain hx | hx := Nat.lt_or_ge (x + k) 1075
  · have hle : (2 : ℚ) ^ (x + k) * 2 ≤ 2 ^ 1075 := by
      rw [← pow_succ]
      exact pow_le_pow_right₀ (by norm_num) hx
    have hm' : (m : ℚ) < 2 ^ 53 := by exact_mod_cast hm
    have : w * 2 ^ k * 2 * 2 ^ 1075 ≤ m * 2 ^ 1075 := by
      calc w * 2 ^ k * 2 * 2 ^ 1075 = m * (2 ^ (x + k) * 2) := by rw [mul_right_comm, hscaled, mul_assoc]
        _ ≤ m * 2 ^ 1075 := mul_le_mul_of_nonneg_left hle (Nat.cast_nonneg m)
    have htwice := le_of_mul_le_mul_right this hscale
    linarith only [htwice, hw, hm']
  · refine ⟨m * 2 ^ (x + k - 1075), mul_right_cancel₀ hscale.ne' ?_⟩
    rw [hscaled, Nat.cast_mul, Nat.cast_pow, Nat.cast_ofNat, mul_assoc, ← pow_add, Nat.sub_add_cancel hx]

/-- The nearest integer is nearer than any other. -/
theorem abs_sub_lt_of_ne {r z : ℕ} {R : ℝ} (hr : |(r : ℝ) - R| < 1 / 2) (hne : z ≠ r) :
    |(r : ℝ) - R| < |(z : ℝ) - R| := by
  have hzr : (1 : ℝ) ≤ |(z : ℝ) - r| := by
    have : (z : ℤ) - r ≠ 0 := fun h => hne (by exact_mod_cast sub_eq_zero.mp h)
    exact_mod_cast Int.one_le_abs this
  have htriangle := abs_sub_le (z : ℝ) R r
  rw [abs_sub_comm R] at htriangle
  linarith

/-- The nearest integer to a number from `2^52` on is nearer than any other integer and than anything below `2^52`. -/
theorem abs_sub_lt_of_nearest {r : ℕ} {R u : ℝ} (hr : |(r : ℝ) - R| < 1 / 2) (hR : 2 ^ 52 ≤ R) (hne : u ≠ r)
    (hu : 2 ^ 52 ≤ u → ∃ z : ℕ, u = z) : |(r : ℝ) - R| < |u - R| := by
  obtain hbig | hsmall := le_or_gt (2 ^ 52) u
  · obtain ⟨z, rfl⟩ := hu hbig
    exact abs_sub_lt_of_ne hr (by exact_mod_cast hne)
  · have hpow : |(r : ℝ) - R| ≤ |((2 ^ 52 : ℕ) : ℝ) - R| := by
      obtain heq | h := eq_or_ne (2 ^ 52) r
      · rw [heq]
      · exact (abs_sub_lt_of_ne hr h).le
    rw [Nat.cast_pow, Nat.cast_ofNat, abs_of_nonpos (by linarith : (2 : ℝ) ^ 52 - R ≤ 0)] at hpow
    rw [abs_of_neg (by linarith : u - R < 0)]
    linarith

/-! ### The speed -/

/-- The scale `2^k` of the root of `n`: `n·4^k` has 105 or 106 bits, and is far enough below `2^106` that its root does not
round up to `2^53`. -/
theorem scaled_bounds {n : ℕ} (h0 : n ≠ 0) (hn : n < 2 ^ 22) :
    42 ≤ 52 - Nat.log2 n / 2 ∧ 2 ^ 104 ≤ n * 2 ^ (2 * (52 - Nat.log2 n / 2)) ∧
      n * 2 ^ (2 * (52 - Nat.log2 n / 2)) ≤ (2 ^ 53 - 1) * (2 ^ 53 - 1) := by
  have hlo : 2 ^ Nat.log2 n ≤ n := Nat.log2_self_le h0
  have hhi : n < 2 ^ (Nat.log2 n + 1) := (Nat.log2_lt h0).1 (Nat.lt_succ_self _)
  have he : Nat.log2 n < 22 := (Nat.log2_lt h0).2 hn
  generalize Nat.log2 n = e at *
  interval_cases e <;> omega

/-- The root of `n·4^k` is that of `n`, scaled by `2^k`. -/
theorem sqrt_mul_two_pow (n k : ℕ) : √((n * 2 ^ (2 * k) : ℕ) : ℝ) = √n * 2 ^ k := by
  rw [Nat.cast_mul, Real.sqrt_mul (Nat.cast_nonneg n), Nat.cast_pow, Nat.cast_ofNat, pow_mul',
    Real.sqrt_sq (by positivity)]

/-- A root that does not round up to `2^53`. -/
theorem sqrtNearest_lt {n : ℕ} (h : n ≤ (2 ^ 53 - 1) * (2 ^ 53 - 1)) : sqrtNearest n < 2 ^ 53 := by
  have hroot : √n ≤ (2 ^ 53 - 1 : ℕ) := by
    refine (Real.sqrt_le_left (Nat.cast_nonneg _)).mpr ?_
    rw [pow_two]
    exact_mod_cast h
  have hnear := (abs_lt.mp (sqrtNearest_near (n := n) (by omega))).2
  have : (sqrtNearest n : ℝ) < (2 ^ 53 - 1 : ℕ) + 1 := by linarith
  exact_mod_cast this

/-- The root of a positive integer below `2^22` as the model computes it: its value is the nearest of all binary64 values,
and less than a quarter away. Distances are compared after scaling by `2^k`, where the value is the nearest integer. -/
theorem binary64SqrtOfNat_nearest {n : ℕ} (h0 : n ≠ 0) (hn : n < 2 ^ 22) :
    ∃ v, binary64Value (binary64SqrtOfNat n) = some v ∧ 0 ≤ v ∧ |(v : ℝ) - √n| < 1 / 4 ∧
      ∀ (y : Binary64) (w : ℚ), binary64Value y = some w → w ≠ v → |(v : ℝ) - √n| < |(w : ℝ) - √n| := by
  obtain ⟨hk, hlo, hhi⟩ := scaled_bounds h0 hn
  rw [binary64SqrtOfNat, if_neg h0]
  dsimp only
  have hk52 : 52 - Nat.log2 n / 2 ≤ 52 := Nat.sub_le ..
  generalize 52 - Nat.log2 n / 2 = k at *
  have hnear := sqrtNearest_near (n := n * 2 ^ (2 * k)) (by omega)
  have hr := sqrtNearest_lt hhi
  generalize sqrtNearest (n * 2 ^ (2 * k)) = r at *
  have hlarge : (2 : ℝ) ^ 52 ≤ √n * 2 ^ k := by
    rw [← sqrt_mul_two_pow]
    refine Real.le_sqrt_of_sq_le ?_
    rw [← pow_mul]
    exact_mod_cast hlo
  rw [sqrt_mul_two_pow] at hnear
  have hscale : (0 : ℝ) < 2 ^ k := by positivity
  have hdist (u : ℝ) : |u - √n| * 2 ^ k = |u * 2 ^ k - √n * 2 ^ k| := by
    rw [← sub_mul, abs_mul, abs_of_pos hscale]
  have hv : ((r / 2 ^ k : ℚ) : ℝ) * 2 ^ k = r := by
    push_cast
    field_simp
  refine ⟨r / 2 ^ k, binary64Value_ofScaled r k hr (by omega), by positivity, ?close, fun y w hy hne => ?nearest⟩
  case close =>
    refine lt_of_mul_lt_mul_right ?_ hscale.le
    rw [hdist, hv]
    have : (2 : ℝ) ^ 1 ≤ 2 ^ k := pow_le_pow_right₀ (by norm_num) (by omega)
    linarith
  case nearest =>
    refine lt_of_mul_lt_mul_right ?_ hscale.le
    rw [hdist, hdist, hv]
    refine abs_sub_lt_of_nearest hnear hlarge (fun heq => hne ?_) fun hbig => ?_
    · rw [eq_div_iff (by positivity)]
      exact_mod_cast heq
    · obtain ⟨z, hz⟩ := mul_pow_eq_natCast_of_binary64Value hy (k := k) (by exact_mod_cast hbig)
      exact ⟨z, by exact_mod_cast hz⟩

/-- A component of a velocity has a 10-bit magnitude. -/
theorem signedMagnitude_sq_le (dir : Bool) (mag : BitVec 10) :
    signedMagnitude dir mag * signedMagnitude dir mag ≤ 1023 * 1023 := by
  have hmag : (mag.toNat : ℤ) ≤ 1023 := by exact_mod_cast Nat.le_of_lt_succ mag.isLt
  have hsq : (mag.toNat : ℤ) * mag.toNat ≤ 1023 * 1023 := by gcongr
  cases dir
  · exact hsq
  · simpa [signedMagnitude] using hsq

/-- The components of a frame are bounded. -/
theorem velocityComponents_sq_le {fb : List Byte} {ew ns : ℤ} (h : velocityComponents fb = some (ew, ns)) :
    ew * ew ≤ 1023 * 1023 ∧ ns * ns ≤ 1023 * 1023 := by
  unfold velocityComponents at h
  split at h
  · cases h
    exact ⟨signedMagnitude_sq_le _ _, signedMagnitude_sq_le _ _⟩
  · cases h

/-- The speed of bounded components is the strictly nearest value to their norm, +0.0 at the origin, and below 1447. -/
theorem speedOfComponents_nearest {ew ns : ℤ} (hew : ew * ew ≤ 1023 * 1023) (hns : ns * ns ≤ 1023 * 1023) :
    ∃ v, binary64Value (speedOfComponents ew ns) = some v ∧ 0 ≤ v ∧ v < 1447 ∧
      (ew = 0 → ns = 0 → speedOfComponents ew ns = 0) ∧
      ∀ (y : Binary64) (w : ℚ), binary64Value y = some w → w ≠ v →
        |(v : ℝ) - √((ew : ℝ) ^ 2 + (ns : ℝ) ^ 2)| < |(w : ℝ) - √((ew : ℝ) ^ 2 + (ns : ℝ) ^ 2)| := by
  obtain ⟨n, hn⟩ := Int.eq_ofNat_of_zero_le (add_nonneg (mul_self_nonneg ew) (mul_self_nonneg ns))
  have hnorm : (ew : ℝ) ^ 2 + (ns : ℝ) ^ 2 = n := by rw [pow_two, pow_two]; exact_mod_cast hn
  rw [hnorm, speedOfComponents, hn, Int.toNat_natCast]
  by_cases h0 : n = 0
  · subst h0
    have hzero : binary64SqrtOfNat 0 = 0 := rfl
    refine ⟨0, by rw [hzero]; exact binary64Value_ofNat (n := 0) (by norm_num), le_rfl, by norm_num, fun _ _ => hzero,
      fun y w _ hne => ?_⟩
    simpa using hne
  · obtain ⟨v, hv, hpos, hclose, hnearest⟩ := binary64SqrtOfNat_nearest h0 (by omega)
    refine ⟨v, hv, hpos, ?_, fun he hs => absurd (by rw [he, hs] at hn; exact_mod_cast hn.symm) h0, hnearest⟩
    have hroot : √(n : ℝ) ≤ 1446.75 := by
      refine (Real.sqrt_le_left (by norm_num)).mpr ?_
      have : (n : ℝ) ≤ 1023 * 1023 + 1023 * 1023 := by exact_mod_cast (by omega : n ≤ 1023 * 1023 + 1023 * 1023)
      linarith
    have : (v : ℝ) < 1447 := by linarith [(abs_lt.mp hclose).2]
    exact_mod_cast this

/-- The speed of a frame is that of its components. -/
theorem speed_of_components {fb : List Byte} {ew ns : ℤ} (h : velocityComponents fb = some (ew, ns)) :
    speed fb = some (speedOfComponents ew ns) := by
  rw [speed, h, Option.map_some]

/-- Settles O20: the root is computed to the nearest multiple of `2^−k`, which are all the binary64 values near it. -/
theorem speedIsTheNearestBinary64OfTheNorm : Obligations.SpeedIsTheNearestBinary64OfTheNorm := by
  intro fb ew ns h
  obtain ⟨hew, hns⟩ := velocityComponents_sq_le h
  obtain ⟨v, hv, -, -, hzero, hnearest⟩ := speedOfComponents_nearest hew hns
  exact ⟨_, v, speed_of_components h, hv, hzero, hnearest⟩

end Sys2Proof.Proofs
end

section
/-! PROOF. The invariant of an instance (10_state.md R20, R23, R24, R27; 20_memory.md R48): what the block emits is lawful,
and every step keeps it. -/

namespace Sys2Proof.Proofs

open Sys2Proof.Machine Sys2Proof.Laws

/-! ### Lawful records -/

/-- Where the class fields of a record come from: each is the value of its extractor (42_dispatch.md R141 to R145). -/
theorem classFields_values {c : DispatchClass} {fb : List Byte} {reg : Registry} {icao : BitVec 24} {r : Record}
    (h : classFields c fb (minimalRecord reg icao) = some r) :
    (∀ a, r.altitude = some a → alt13 fb = some a ∨ alt12 fb = some a) ∧
    (∀ t, r.callsign = some t → callsign fb = some t) ∧
    (∀ v, r.velocity = some v → speed fb = some v.speed ∧ heading fb = some v.heading) := by
  cases c
  case min => cases h; exact ⟨nofun, nofun, nofun⟩
  all_goals
    dsimp only [classFields, alt13Fields, identFields, posvelFields, posFields] at h
    split at h
    · cases h
      simp_all [minimalRecord]
    · cases h

/-- A speed and a heading that can be read lie in their ranges (41_extract.md R111, R112). -/
theorem velocity_lawful {fb : List Byte} {x y : Binary64} (hx : speed fb = some x) (hy : heading fb = some y) :
    BinaryIn x 0 1447 ∧ BinaryIn y 0 360 := by
  obtain ⟨⟨ew, ns⟩, hc, -⟩ := Option.map_eq_some_iff.mp hx
  obtain ⟨hew, hns⟩ := velocityComponents_sq_le hc
  obtain ⟨v, hv, hlo, hhi, -⟩ := speedOfComponents_nearest hew hns
  obtain ⟨h, w, hh, hw, hlo', hhi', -⟩ := headingsObeyTheirLaws fb ew ns hc
  cases (speed_of_components hc).symm.trans hx
  cases hh.symm.trans hy
  exact ⟨⟨v, hv, hlo, hhi⟩, ⟨w, hw, hlo', hhi'⟩⟩

/-- The record of a class is lawful: its values are those of the extractors, and its presence bits those of the class. -/
theorem record_lawful {c : DispatchClass} {fb : List Byte} {reg : Registry} {icao : BitVec 24} {r : Record}
    (h : classFields c fb (minimalRecord reg icao) = some r) : r.Lawful := by
  obtain ⟨hcrc, halt, hcall, hpos, hvel⟩ := classFields_presence h
  obtain ⟨valt, vcall, vvel⟩ := classFields_values h
  refine ⟨hcrc, fun a ha => altitudesStayInTheirRange fb a (valt a ha), fun t ht => ?_, fun v hv => ?_, ?_, ?_, ?_⟩
  · obtain ⟨hlen, hchars, hlast, -⟩ := callsignsAreTrimmedCharsetText fb t (vcall t ht)
    exact ⟨hlen, hchars, hlast⟩
  · obtain ⟨hspeed, hheading⟩ := vvel v hv
    exact velocity_lawful hspeed hheading
  · exact fun hp => hpos.mpr (.inl (hvel.mp hp))
  · exact fun hp => halt.mpr (.inr (hpos.mp hp))
  · intro hp
    rw [← Bool.not_eq_true, halt, hcall.mp hp]
    decide

/-! ### Lawful outcomes -/

/-- A mismatch names two different checksums (60_exceptions.md R172). -/
theorem checksums_ne_of_mismatch {i : Instr} {c e : BitVec 24} (h : frameVerdict (encode i) = some (.mismatch c e)) :
    c ≠ e := by
  obtain ⟨d, hd⟩ := computeCrc_isSome (lenByType_cases i.df) (encode_length i)
  rw [frameVerdict_encode hd] at h
  by_cases heq : d = i.crc
  · simp [heq] at h
  · rw [if_neg heq] at h
    cases h
    exact heq

/-- A refused byte count is not the expected one, which is 7 or 14 (60_exceptions.md R171). -/
theorem counts_of_length_error {bytes : List Byte} {nb expected : ℕ}
    (h : decode bytes = .error (.length nb expected)) : nb ≠ expected ∧ (expected = 7 ∨ expected = 14) := by
  cases bytes with
  | nil => cases h
  | cons b0 bs =>
    have hlen : 8 * (b0 :: bs).length ≠ lenByType (typeBits b0) := fun hlen => by
      obtain ⟨i, hi⟩ := decode_of_wellFormed ((frameWellFormed_iff (b0 :: bs)).mpr ⟨List.cons_ne_nil _ _, hlen⟩)
      cases hi.symm.trans h
    cases (decode_eq_length_error hlen).symm.trans h
    have := lenByType_cases (typeBits b0)
    omega

/-- A frame transaction emits a lawful record or a lawful outcome. -/
theorem runFrame_lawful {bytes : List Byte} {s t : State} (h : runFrame bytes s = .next t) :
    (∃ r, r.Lawful ∧ t = s.afterRecord r) ∨ ∃ o, o.Lawful ∧ t = s.afterDrop o := by
  obtain ⟨i, -, hexec⟩ | ⟨-, rfl⟩ | ⟨nb, expected, hd, rfl⟩ := runFrame_next h
  · obtain ⟨r, -, hr, rfl⟩ | ⟨c, e, hv, rfl⟩ := exec_next hexec
    · exact .inl ⟨r, record_lawful hr, rfl⟩
    · exact .inr ⟨.checksumMismatch c e, checksums_ne_of_mismatch hv, rfl⟩
  · exact .inr ⟨.malformed .empty, trivial, rfl⟩
  · exact .inr ⟨.malformed (.length nb expected), counts_of_length_error hd, rfl⟩

/-! ### The invariant -/

/-- Settles O49: SEEN_VALID is clear, the latch is empty and nothing has left. -/
theorem resetAndPowerUpMeetTheInvariant : Obligations.ResetAndPowerUpMeetTheInvariant :=
  ⟨⟨rfl, nofun, nofun⟩, ⟨rfl, nofun, nofun⟩⟩

/-- More lawful outputs and a closed latch keep the invariant. -/
theorem inv_of_outputs {s t : State} {es : List PortEvent} (hs : s.Inv) (hlatch : t.latch = none)
    (hseen : t.seenValid = s.seenValid) (hboot : t.boot = s.boot) (hlog : t.portLog = s.portLog ++ es)
    (hes : ∀ e ∈ es, e.Lawful) : t.Inv := by
  obtain ⟨-, hjust, hlaw⟩ := hs
  refine ⟨hlatch, fun h => ?_, ?_⟩
  · obtain ⟨hb, hrec⟩ := hjust (hseen ▸ h)
    exact ⟨hboot.trans hb, hlog ▸ List.mem_append_left _ hrec⟩
  · rw [hlog, List.forall_mem_append]
    exact ⟨hlaw, hes⟩

/-- A RECORD outcome of a running instance justifies SEEN_VALID. -/
theorem inv_afterRecord {s : State} {r : Record} (hs : s.Inv) (hb : s.boot = .running) (hr : r.Lawful) :
    (s.afterRecord r).Inv := by
  obtain ⟨-, -, hlaw⟩ := hs
  refine ⟨rfl, fun _ => ⟨hb, by simp [State.afterRecord]⟩, ?_⟩
  simp only [State.afterRecord, List.forall_mem_append, List.forall_mem_cons]
  exact ⟨hlaw, trivial, trivial, hr, by simp⟩

/-- Settles O50: the outputs of each case of a step are lawful, and only a RECORD outcome sets SEEN_VALID. -/
theorem everyStepKeepsTheInvariant : Obligations.EveryStepKeepsTheInvariant := by
  intro s t hs h
  have ⟨hlatch, hjust, hlaw⟩ := hs
  cases step_next h with
  | waits => exact hs
  | skippedLine => exact hs
  | @frame _ rest _ _ hb hrun =>
    have hs' : State.Inv { s with hostInput := rest } := hs
    obtain ⟨r, hr, rfl⟩ | ⟨o, ho, rfl⟩ := runFrame_lawful hrun
    · exact inv_afterRecord hs' hb hr
    · exact inv_of_outputs (es := [.outcome o]) hs' rfl rfl rfl rfl (List.forall_mem_singleton.mpr ho)
  | rejectedLine => exact inv_of_outputs (es := [.outcome _]) hs rfl rfl rfl rfl (List.forall_mem_singleton.mpr trivial)
  | transport => exact inv_of_outputs (es := [.faultOut _]) hs hlatch rfl rfl rfl (List.forall_mem_singleton.mpr trivial)
  | statusRead =>
    refine inv_of_outputs (es := [.statusRead s.statusRegister]) hs hlatch rfl rfl rfl ?_
    rw [statusRegister_eq]
    cases s.seenValid <;> simp [PortEvent.Lawful]
  | reset => exact ⟨rfl, nofun, hlaw⟩
  | registryLoad hin hb =>
    refine ⟨hlatch, fun hseen => ?_, hlaw⟩
    obtain ⟨hrunning, -⟩ := hjust hseen
    cases hb.symm.trans hrunning

end Sys2Proof.Proofs
end

section
/-! PROOF. The byte forms of the extractors as frame bit ranges (30_encoding.md R61, R62, 41_extract.md R101 to R110). -/

namespace Sys2Proof.Proofs

open Sys2Proof.Machine Sys2Proof.Laws

/-! ### Frame bits, bytes and fields -/

/-- Bit `8k + i` of a frame is bit `7 − i` of byte `k` (00_scope.md R7). -/
theorem bitAt_of_byteAt {fb : List Byte} {k i : ℕ} {b : Byte} (h : byteAt fb k = some b) (hi : i < 8) :
    bitAt fb (8 * k + i) = some (b.getLsbD (7 - i)) := by
  have hk : (8 * k + i) / 8 = k := by omega
  have hi' : (8 * k + i) % 8 = i := by omega
  rw [bitAt, hk, h, hi']

/-- A word is its bits but the last, and the last. -/
theorem concat_eq_iff {n : ℕ} (hi : BitVec n) (b : Bool) (v : BitVec (n + 1)) :
    hi.concat b = v ↔ hi = v.extractLsb' 1 n ∧ b = v.getLsbD 0 := by
  constructor
  · rintro rfl
    refine ⟨BitVec.eq_of_getLsbD_eq fun i hi => ?_, by simp⟩
    simp [hi, Nat.add_comm 1 i]
  · rintro ⟨rfl, rfl⟩
    refine BitVec.eq_of_getLsbD_eq fun i hi => ?_
    cases i with
    | zero => simp
    | succ i => simp [show i < n by omega, Nat.add_comm 1 i]

/-- A field is the frame bits of its positions, the first most significant (00_scope.md R8). -/
theorem bitField_eq_some_iff {fb : List Byte} {a n : ℕ} (v : BitVec n) :
    bitField fb a n = some v ↔ ∀ i < n, bitAt fb (a + i) = some (v.getLsbD (n - 1 - i)) := by
  induction n with
  | zero =>
    have hv : v = 0#0 := BitVec.eq_of_getLsbD_eq nofun
    simp [bitField, hv]
  | succ n ih =>
    have hlast : bitField fb a (n + 1) = some v ↔
        bitField fb a n = some (v.extractLsb' 1 n) ∧ bitAt fb (a + n) = some (v.getLsbD 0) := by
      rw [bitField]
      split
      case h_1 hi b hhi hb =>
        rw [hhi, hb, Option.some.injEq, Option.some.injEq, Option.some.injEq]
        exact concat_eq_iff hi b v
      case h_2 hnone => exact iff_of_false nofun fun ⟨hhi, hb⟩ => hnone _ _ hhi hb
    rw [hlast, ih, Nat.forall_lt_succ_right]
    refine and_congr (forall₂_congr fun i hi => ?_) (by simp)
    simp [show n - 1 - i < n by omega, show 1 + (n - 1 - i) = n - i by omega]

/-- Two adjacent fields are one. -/
theorem bitField_append {fb : List Byte} {a n m : ℕ} {u : BitVec n} {v : BitVec m} (hu : bitField fb a n = some u)
    (hv : bitField fb (a + n) m = some v) : bitField fb a (n + m) = some (u ++ v) := by
  rw [bitField_eq_some_iff] at *
  intro i hi
  rw [BitVec.getLsbD_append]
  obtain hlt | hge := Nat.lt_or_ge i n
  · rw [hu i hlt, if_neg (by omega), show n + m - 1 - i - m = n - 1 - i by omega]
  · have hbit := hv (i - n) (by omega)
    rw [show a + n + (i - n) = a + i by omega, show m - 1 - (i - n) = n + m - 1 - i by omega] at hbit
    rw [hbit, if_pos (by omega)]

/-- A part of a field is a field. -/
theorem bitField_part {fb : List Byte} {a n : ℕ} {w : BitVec n} (hw : bitField fb a n = some w) {s l : ℕ}
    (h : s + l ≤ n) : bitField fb (a + s) l = some (w.extractLsb' (n - s - l) l) := by
  rw [bitField_eq_some_iff] at *
  intro i hi
  rw [Nat.add_assoc, hw (s + i) (by omega), BitVec.getLsbD_extractLsb', decide_eq_true (by omega), Bool.true_and,
    show n - s - l + (l - 1 - i) = n - 1 - (s + i) by omega]

/-- A byte is a field. -/
theorem bitField_byte {fb : List Byte} {k : ℕ} {b : Byte} (h : byteAt fb k = some b) : bitField fb (8 * k) 8 = some b :=
  (bitField_eq_some_iff b).mpr fun _ hi => bitAt_of_byteAt h hi

/-- A part of a byte is a field. -/
theorem bitField_in_byte {fb : List Byte} {k : ℕ} {b : Byte} (h : byteAt fb k = some b) {s l : ℕ} (hs : s + l ≤ 8) :
    bitField fb (8 * k + s) l = some (b.extractLsb' (8 - s - l) l) :=
  bitField_part (bitField_byte h) hs

/-- Bytes read as one integer are a field (20_memory.md R43). -/
theorem memRead_eq_bitField {fb : List Byte} {k n : ℕ} (h : k + n ≤ fb.length) :
    memRead fb k n = bitField fb (8 * k) (8 * n) := by
  induction n with
  | zero => rfl
  | succ n ih =>
    obtain ⟨b, hb⟩ := byteAt_isSome (fb := fb) (k := k + n) (by omega)
    obtain ⟨hi, hhi⟩ := bitField_isSome (fb := fb) (a := 8 * k) (n := 8 * n) (by omega)
    have hbyte := bitField_byte hb
    rw [Nat.mul_add] at hbyte
    simp only [memRead, ih (by omega), hhi, hb]
    exact (bitField_append hhi hbyte).symm

/-! ### The extractors -/

section Extractors

variable {fb : List Byte}

theorem type_and_status_bits (h : 1 ≤ fb.length) :
    frameType fb = bitField fb 0 5 ∧ flightStatus fb = bitField fb 5 3 := by
  obtain ⟨b0, h0⟩ := byteAt_isSome (fb := fb) (k := 0) h
  rw [frameType, flightStatus, h0]
  exact ⟨(bitField_in_byte h0 (s := 0) (by omega)).symm, (bitField_in_byte h0 (s := 5) (by omega)).symm⟩

theorem embeddedCrc_bits (h : 3 ≤ fb.length) :
    embeddedCrc fb (8 * fb.length) = bitField fb (8 * fb.length - 24) 24 := by
  rw [embeddedCrc, memRead_eq_bitField (by omega), show 8 * (8 * fb.length / 8 - 3) = 8 * fb.length - 24 by omega]

theorem icaoAddress_bits (h : 4 ≤ fb.length) : icaoAddress fb = bitField fb 8 24 :=
  memRead_eq_bitField (k := 1) (n := 3) (by omega)

/-- AC13 with M and Q taken out is the altitude code of R105. -/
theorem alt13_bits (h : 4 ≤ fb.length) :
    ∃ code m q, bitField fb 19 13 = some code ∧ bitAt fb 25 = some m ∧ bitAt fb 27 = some q ∧
      alt13 fb = some (if m = false ∧ q = true then
        feetOfCode (code.toNat / 128 * 32 + code.toNat / 32 % 2 * 16 + code.toNat % 16) else 0) := by
  obtain ⟨b2, h2⟩ := byteAt_isSome (fb := fb) (k := 2) (by omega)
  obtain ⟨b3, h3⟩ := byteAt_isSome (fb := fb) (k := 3) (by omega)
  refine ⟨b2.extractLsb' 0 5 ++ b3, b3.getLsbD 6, b3.getLsbD 4,
    bitField_append (bitField_in_byte h2 (s := 3) (l := 5) (by omega)) (bitField_byte h3),
    bitAt_of_byteAt h3 (i := 1) (by omega), bitAt_of_byteAt h3 (i := 3) (by omega), ?_⟩
  have hcode : (b2.extractLsb' 0 5 ++ b3.extractLsb' 7 1 ++ b3.extractLsb' 5 1 ++ b3.extractLsb' 0 4).toNat =
      (b2.extractLsb' 0 5 ++ b3).toNat / 128 * 32 + (b2.extractLsb' 0 5 ++ b3).toNat / 32 % 2 * 16 +
        (b2.extractLsb' 0 5 ++ b3).toNat % 16 := by
    simp only [toNat_append_eq, BitVec.extractLsb'_toNat, Nat.shiftRight_eq_div_pow]
    omega
  unfold alt13
  rw [h2, h3, ← hcode]
  simp [altitudeOfCode_eq, apply_ite some]

theorem meSubtype_bits (h : 5 ≤ fb.length) :
    ∃ tc st, meSubtype fb = some (tc, st) ∧ bitField fb 32 5 = some tc ∧ bitField fb 37 3 = some st := by
  obtain ⟨b4, h4⟩ := byteAt_isSome (fb := fb) (k := 4) (by omega)
  exact ⟨typeBits b4, low3Bits b4, by rw [meSubtype, h4, Option.map_some], bitField_in_byte h4 (s := 0) (by omega),
    bitField_in_byte h4 (s := 5) (by omega)⟩

theorem alt12_bits (h : 7 ≤ fb.length) :
    ∃ high q low, bitField fb 40 7 = some high ∧ bitAt fb 47 = some q ∧ bitField fb 48 4 = some low ∧
      alt12 fb = some (if q = true then feetOfCode (high.toNat * 16 + low.toNat) else 0) := by
  obtain ⟨b5, h5⟩ := byteAt_isSome (fb := fb) (k := 5) (by omega)
  obtain ⟨b6, h6⟩ := byteAt_isSome (fb := fb) (k := 6) (by omega)
  refine ⟨b5.extractLsb' 1 7, b5.getLsbD 0, b6.extractLsb' 4 4, bitField_in_byte h5 (s := 0) (by omega),
    bitAt_of_byteAt h5 (i := 7) (by omega), bitField_in_byte h6 (s := 0) (by omega), ?_⟩
  unfold alt12
  rw [h5, h6]
  simp only [altitudeOfCode_eq, toNat_append_eq (b5.extractLsb' 1 7), apply_ite some]
  rfl

theorem velocityComponents_bits (h : 9 ≤ fb.length) :
    ∃ ewDir ewMag nsDir nsMag, bitAt fb 45 = some ewDir ∧ bitField fb 46 10 = some ewMag ∧
      bitAt fb 56 = some nsDir ∧ bitField fb 57 10 = some nsMag ∧
      velocityComponents fb = some
        (if ewDir then -(ewMag.toNat : ℤ) else ewMag.toNat, if nsDir then -(nsMag.toNat : ℤ) else nsMag.toNat) := by
  obtain ⟨b5, h5⟩ := byteAt_isSome (fb := fb) (k := 5) (by omega)
  obtain ⟨b6, h6⟩ := byteAt_isSome (fb := fb) (k := 6) (by omega)
  obtain ⟨b7, h7⟩ := byteAt_isSome (fb := fb) (k := 7) (by omega)
  obtain ⟨b8, h8⟩ := byteAt_isSome (fb := fb) (k := 8) (by omega)
  refine ⟨b5.getLsbD 2, b5.extractLsb' 0 2 ++ b6, b7.getLsbD 7, b7.extractLsb' 0 7 ++ b8.extractLsb' 5 3,
    bitAt_of_byteAt h5 (i := 5) (by omega),
    bitField_append (bitField_in_byte h5 (s := 6) (l := 2) (by omega)) (bitField_byte h6),
    bitAt_of_byteAt h7 (i := 0) (by omega),
    bitField_append (bitField_in_byte h7 (s := 1) (l := 7) (by omega))
      (bitField_in_byte h8 (s := 0) (l := 3) (by omega)), ?_⟩
  unfold velocityComponents
  rw [h5, h6, h7, h8]
  rfl

theorem rawPosition_bits (h : 11 ≤ fb.length) :
    ∃ p, rawPosition fb = some p ∧ bitAt fb 53 = some p.posF ∧ bitField fb 54 17 = some p.rawLat ∧
      bitField fb 71 17 = some p.rawLon := by
  obtain ⟨b6, h6⟩ := byteAt_isSome (fb := fb) (k := 6) (by omega)
  obtain ⟨b7, h7⟩ := byteAt_isSome (fb := fb) (k := 7) (by omega)
  obtain ⟨b8, h8⟩ := byteAt_isSome (fb := fb) (k := 8) (by omega)
  obtain ⟨b9, h9⟩ := byteAt_isSome (fb := fb) (k := 9) (by omega)
  obtain ⟨b10, h10⟩ := byteAt_isSome (fb := fb) (k := 10) (by omega)
  refine ⟨_, by unfold rawPosition; rw [h6, h7, h8, h9, h10], bitAt_of_byteAt h6 (i := 5) (by omega), ?_, ?_⟩
  · exact bitField_append (bitField_append (bitField_in_byte h6 (s := 6) (l := 2) (by omega)) (bitField_byte h7))
      (bitField_in_byte h8 (s := 0) (l := 7) (by omega))
  · exact bitField_append (bitField_append (bitField_in_byte h8 (s := 7) (l := 1) (by omega)) (bitField_byte h9))
      (bitField_byte h10)

/-- The codes are the parts of six bits of bytes 5 to 10. -/
theorem callsignCodes_of_bitField {w : BitVec 48} (hw : bitField fb 40 48 = some w) {n : ℕ} (hn : n ≤ 8) :
    callsignCodes fb n = some ((List.range n).map fun i => w.extractLsb' (42 - 6 * i) 6) := by
  induction n with
  | zero => rfl
  | succ k ih =>
    have hcode := bitField_part hw (show 6 * k + 6 ≤ 48 by omega)
    simp [callsignCodes, ih (by omega), hcode, List.range_succ, show 48 - 6 * k - 6 = 42 - 6 * k by omega]

theorem callsignCodes_bits (h : 11 ≤ fb.length) :
    ∃ w codes, memRead fb 5 6 = some w ∧ callsignCodes fb 8 = some codes ∧ codes.length = 8 ∧
      ∀ i, i < 8 → codes[i]? = some (BitVec.ofNat 6 (w.toNat / 2 ^ (42 - 6 * i))) := by
  obtain ⟨w, hw⟩ := memRead_isSome (fb := fb) (k := 5) (n := 6) (by omega)
  have hfield : bitField fb 40 48 = some w := (memRead_eq_bitField (k := 5) (n := 6) (by omega)).symm.trans hw
  refine ⟨w, _, hw, callsignCodes_of_bitField hfield le_rfl, by simp, fun i hi => ?_⟩
  rw [List.getElem?_map, List.getElem?_range hi, Option.map_some, BitVec.extractLsb', Nat.shiftRight_eq_div_pow]

end Extractors

/-- Settles O9: each byte form joins parts of bytes that are adjacent fields of the frame. -/
theorem byteFormsAreTheFrameBitRanges : Obligations.ByteFormsAreTheFrameBitRanges := fun _ =>
  ⟨type_and_status_bits, embeddedCrc_bits, fun h => ⟨icaoAddress_bits h, alt13_bits h⟩, meSubtype_bits, alt12_bits,
    velocityComponents_bits, fun h => ⟨rawPosition_bits h, callsignCodes_bits h⟩⟩

end Sys2Proof.Proofs
end
